-- ==== Sys2Proof/Word.lean ====
section
/-!
DEFINITION. The plain data widths of the core (spec/00_scope.md R8, R9): 32-bit words, 8-bit bytes, 5-bit register
numbers. Arithmetic on them is BitVec's own, modulo 2^32 (R10); `++`, `signExtend` and `setWidth` are R9's
concatenation and R11's `sext_32` and `zext_32`.
-/

namespace Sys2Proof

/-- A 32-bit value: a register, an address or a datum (R8, R9). -/
abbrev Word := BitVec 32

/-- The smallest addressable unit of memory (R60). -/
abbrev Byte := BitVec 8

/-- The number of a general register, a coprocessor-0 register or a GTE register: a 5-bit field (R15). -/
abbrev RegNum := BitVec 5

/-- A primary opcode, `instr[31:26]` (R15). -/
abbrev Opcode := BitVec 6

end Sys2Proof
end

