-- ==== Sys2Proof/Config.lean ====
section
/-!
DEFINITION. What an implementation or the platform fixes (spec/00_scope.md R8) and the free values of the model.

The parameters are plain data, carried by the state in one record that no step writes, so that a claim about every
state holds for every value of every parameter. The oracles of the external agents are opaque constants: nothing can
be proved of an answer.
-/

namespace Sys2Proof

/-! ## Parameters -/

/-- What happens when an interrupt is taken at a COP2 command: the parameter `GTE_ON_INTERRUPT` (R8, D11). -/
inductive GteOnInterrupt
  | notExecuted
  | refuse
  deriving DecidableEq, Repr

/-- The sprite-against-sprite rule of the video block's hardware variant: the parameter `SPRITE_PRIORITY` (R8, R351, D26). -/
inductive SpritePriority
  | oamIndex
  | xPosition
  deriving DecidableEq, Repr

/-- The two kinds of memory-like external region the spec names (R85 "the platform's RAM and ROM"). -/
inductive RegionKind
  /-- reads return the latest bytes stored there (R87) -/
  | ram
  /-- a write is an event and leaves the contents alone -/
  | rom
  deriving DecidableEq, Repr

/-- One memory-like region of the external physical address space: `size` bytes from `base`. -/
structure Region where
  base : Nat
  size : Nat
  kind : RegionKind
  deriving DecidableEq, Repr

/-- A register the host's register-dump interface exposes: the general registers, pc, hi, lo and the coprocessor-0 registers (R49),
and of the video block its scanline position (the scanline counter and the cursor) and its mode number (R358). -/
inductive HostReg
  | gpr (r : RegNum)
  | pc
  | hi
  | lo
  | cop0 (n : RegNum)
  | ppuLy
  | ppuXpos
  | ppuMode
  deriving DecidableEq, Repr

/-- The parameters of R8 that a step or a host call reads. `BRANCH_IN_DELAY_SLOT` has the single value `refuse` and needs no field. -/
structure Params where
  /-- `USER_KSEG_FAULT` (R64, D6) -/
  userKsegFault : Bool
  /-- `ISOLATED_SCRATCH_WRITE` (R74, D16) -/
  isolatedScratchWrite : Bool
  /-- `GTE_ON_INTERRUPT` (R141, D11) -/
  gteOnInterrupt : GteOnInterrupt
  /-- `SPRITE_PRIORITY` (R351, D26) -/
  spritePriority : SpritePriority
  /-- the platform's memory map (R68, D23): its memory-like regions, which are also `FETCHABLE` (R85, D17) -/
  regions : List Region
  /-- `REGISTER_IDS` (R49, R358): which register each integer id names -/
  registerIds : List (Nat × HostReg)
  deriving DecidableEq, Repr

/-- The register numbering the model presumes where the source gives none (log entry 6): ids 0 to 31 are r0 to r31, then
pc, hi and lo, then the coprocessor-0 registers 0 to 31 from id 35, then the video block's scanline counter, cursor and mode. -/
def defaultRegisterIds : List (Nat × HostReg) :=
  (List.range 32).map (fun i => (i, .gpr (BitVec.ofNat 5 i))) ++
    [(32, .pc), (33, .hi), (34, .lo)] ++
    (List.range 32).map (fun i => (35 + i, .cop0 (BitVec.ofNat 5 i))) ++
    [(67, .ppuLy), (68, .ppuXpos), (69, .ppuMode)]

/-- The defaults of R8, with RAM where R422 needs a handler and ROM where R422 needs the boot code (log entry 4). -/
def Params.default : Params where
  userKsegFault := true
  isolatedScratchWrite := true
  gteOnInterrupt := .notExecuted
  spritePriority := .oamIndex
  regions := [⟨0x00000000, 0x00200000, .ram⟩, ⟨0x1FC00000, 0x00080000, .rom⟩]
  registerIds := defaultRegisterIds

/-! ## Events: what the core's external agents are asked to do -/

/-- One request of the core to an agent outside it (R68, R310). The answers of the reads are oracle answers, the writes and
commands are recorded events; the reads are recorded too, since a device read may have side effects (R76). -/
inductive Event
  /-- `ExtRead(p, n)` -/
  | extRead (p : Word) (n : Nat)
  /-- `ExtWrite(p, n, v)`, v cut to its low 8n bits -/
  | extWrite (p : Word) (n : Nat) (v : Word)
  /-- `GteReadData(r)` -/
  | gteReadData (r : RegNum)
  /-- `GteReadCtrl(r)` -/
  | gteReadCtrl (r : RegNum)
  /-- `GteWriteData(r, v)` -/
  | gteWriteData (r : RegNum) (v : Word)
  /-- `GteWriteCtrl(r, v)` -/
  | gteWriteCtrl (r : RegNum) (v : Word)
  /-- `GteCommand(cofun)` -/
  | gteCommand (cofun : BitVec 25)
  deriving DecidableEq, Repr

/-! ## Free values

Each is applied to everything the agent has seen (the events so far, newest first) and to the number of the step, so that
two reads of one address need not agree (R76). -/

/-- The external memory interface's answer to a read of `n` bytes at physical address `p` outside the memory-like regions
(R68, D23: "an oracle whose answers are draws"). -/
opaque Config.extAnswer (history : List Event) (draw : Nat) (p : Word) (n : Nat) : Word

/-- What the host's side-effect-free `peek` shows outside the scratchpad and the memory-like regions (R77). -/
opaque Config.peekAnswer (history : List Event) (draw : Nat) (p : Word) : Byte

/-- The GTE's answer to `GteReadData(r)` (R310, D10). -/
opaque Config.gteDataAnswer (history : List Event) (draw : Nat) (r : RegNum) : Word

/-- The GTE's answer to `GteReadCtrl(r)` (R310, D10). -/
opaque Config.gteCtrlAnswer (history : List Event) (draw : Nat) (r : RegNum) : Word

/-- How far one step advances the cycle counter (R46; no value is in the spec, R440). -/
opaque Config.stepCycles (draw : Nat) : Nat

/-- The read-absorption count a step's pending load carries (R26, N7; no value is in the spec, R442). -/
opaque Config.readAbsorb (draw : Nat) : Nat

end Sys2Proof
end

