-- ==== Sys2Proof/Machine/PpuState.lean ====
section
/-!
DEFINITION. The state of the companion block, the PPU scanline engine (spec/50_ppu_scanline.md R341, R342), and what it
takes from outside (R340, R352, R361). The widths of its registers are not in the source (N26), so positions, cycles and
OAM indexes are natural numbers.
-/

namespace Sys2Proof.Machine

/-- The states of R342. -/
inductive PpuMode
  | mode2Line0
  | mode2LineN
  | mode3Start
  | mode3TileFetch
  | mode3LoadSprite
  | mode3StartWindow
  /-- mode 0, horizontal blank -/
  | endOfLine
  /-- mode 1, vertical blank -/
  | vblank
  deriving DecidableEq, Repr

/-- The layer a palette lookup is for (R352). -/
inductive PpuLayer
  | bg
  | window
  | sprite
  deriving DecidableEq, Repr

/-- A background or window pixel: its layer, palette and 2-bit color index (R350, R352). -/
structure BgPixel where
  layer : PpuLayer
  palette : Nat
  ci : BitVec 2
  deriving DecidableEq, Repr

/-- A candidate sprite pixel at one position (R350). -/
structure SpritePixel where
  oamIndex : Nat
  x : Nat
  ci : BitVec 2
  /-- the background-priority attribute bit -/
  bgp : Bool
  palette : Nat
  deriving DecidableEq, Repr

/-- The host's register writes, newest first: the register values of the engine (R355; the register set is not in the source, N29). -/
abbrev PpuRegs := List (Nat × Nat)

/-- Eight 2-bit color indexes: a tile line, or a sprite's "shifted pixel-word accumulator" (R341, R350). DESIGN CHOICE (log entry
21): the width is not in the source (N26), and the next pixel to output is held in the low two bits. -/
abbrev PixelWord := BitVec 16

/-- A tile-data/attribute register: a tile line's pixels and the palette its attribute names (R341, R352). -/
structure TileData where
  pixels : PixelWord
  palette : Nat
  deriving DecidableEq, Repr

/-- What an OAM entry says, read from its bytes: the sprite's top line (negative above the screen), its x-position, the number of
its tile and its attributes (R349, R350). -/
structure OamSprite where
  y : Int
  x : Nat
  tile : Nat
  bgp : Bool
  palette : Nat
  deriving DecidableEq, Repr

/-- One entry of the sprite candidate list (R341, R349): the x-position, the OAM offset, the cached tile line and the
priority-resolution id, with the attributes its pixels carry; `loaded` says that mode-3-load-sprite has taken it (R345). -/
structure SpriteEntry where
  x : Nat
  oamOffset : Nat
  tileLine : PixelWord
  priorityId : Nat
  bgp : Bool
  palette : Nat
  loaded : Bool
  deriving DecidableEq, Repr

/-- The engine's continuation state (R341), with the model's own fields below. -/
structure Ppu where
  mode : PpuMode
  /-- the next pixel to output -/
  xpos : Nat
  /-- where the current run of pixels ends -/
  endOfRun : Nat
  /-- cycles remaining in this call -/
  budget : Nat
  tileCur : TileData
  tileNext : TileData
  winRequested : Bool
  winStarted : Bool
  sprites : List SpriteEntry
  /-- one accumulator per entry of `sprites`: the color indexes it has still to shift out -/
  sprAcc : List PixelWord
  /-- the pixels output so far on this line -/
  line : List Nat
  /-- the engine's current cycle -/
  now : Nat
  /-- the scanline counter, supplied and advanced by the host (R340) -/
  ly : Nat
  /-- the cycle at which the current line (or vertical blank) began (the model's own: R343 and R347 count from it) -/
  lineStart : Nat
  /-- cycles left in the current entry ramp (the model's own: R344 to R346) -/
  wait : Nat
  /-- how many pixels of `tileCur` are still to be output (the model's own) -/
  tileLeft : Nat
  /-- whether `tileNext` holds the tile that follows `tileCur` (the model's own) -/
  nextLoaded : Bool
  /-- the tile column `tileNext` is loaded from next (the model's own) -/
  nextColumn : Nat
  /-- whether the window decision at this position of the cursor has been taken (the model's own: R346 takes it once) -/
  winTested : Bool
  /-- the cycle of the latest write that disabled the window (the model's own: R353 counts from it) -/
  windowOffAt : Option Nat
  /-- the register values the host has written, newest first (R355) -/
  writes : PpuRegs
  deriving DecidableEq, Repr

/-- The never-loaded defaults (R341, R359). -/
def Ppu.reset : Ppu where
  mode := .mode2Line0
  xpos := 0
  endOfRun := 0
  budget := 0
  tileCur := ⟨0, 0⟩
  tileNext := ⟨0, 0⟩
  winRequested := false
  winStarted := false
  sprites := []
  sprAcc := []
  line := []
  now := 0
  ly := 0
  lineStart := 0
  wait := 0
  tileLeft := 0
  nextLoaded := false
  nextColumn := 0
  winTested := false
  windowOffAt := none
  writes := []

/-- The arguments a model of the engine takes (R340, R352, R361): its timing parameters, the external VRAM and OAM byte arrays and
palette tables, and what the source does not give: the formats of OAM and of the tiles and the meaning of the registers (N26, N29;
log entry 13). It is no part of the machine's state. -/
structure PpuEnv where
  /-- `T_MODE3_START(speed)` (R343), `true` for double speed -/
  tMode3Start : Bool → Nat
  /-- `T_PREFETCH(scroll_fine)` (R344) -/
  tPrefetch : Nat → Nat
  /-- `T_SPRITE(n, x, scroll_fine)` (R345) -/
  tSprite : Nat → Nat → Nat → Nat
  /-- `T_WINDOW` (R346) -/
  tWindow : Nat
  /-- `LINE_WIDTH` -/
  lineWidth : Nat
  /-- `T_LINE` -/
  tLine : Nat
  /-- `LAST_VISIBLE_LINE` -/
  lastVisibleLine : Nat
  /-- `VBLANK_LINES` -/
  vblankLines : Nat
  /-- `VramRead(addr)` (R340) -/
  vramRead : Nat → Byte
  /-- `OamRead(addr)` (R340) -/
  oamRead : Nat → Byte
  /-- how many entries OAM holds -/
  oamEntries : Nat
  /-- how many bytes an OAM entry has -/
  oamEntrySize : Nat
  /-- the format of an OAM entry's bytes -/
  oamDecode : List Byte → OamSprite
  /-- where VRAM holds line `row` of a sprite -/
  spriteLineAddrs : PpuRegs → OamSprite → Nat → List Nat
  /-- the format of those bytes, which the sprite's attributes may change -/
  spriteLineDecode : OamSprite → List Byte → PixelWord
  /-- where VRAM holds the tile map's entry for a tile column on a scanline, of the window's tile map when `true` (R344, R346) -/
  mapAddrs : PpuRegs → Nat → Bool → Nat → List Nat
  /-- where VRAM holds the tile line that the bytes of a map entry name on a scanline -/
  tileAddrs : PpuRegs → Nat → Bool → List Byte → List Nat
  /-- the format of a map entry's bytes and of its tile line's bytes -/
  tileDecode : List Byte → List Byte → TileData
  /-- `PaletteLookup(layer, palette, color_index)` (R352) -/
  paletteLookup : PpuLayer → Nat → BitVec 2 → Nat
  /-- what the written registers mean -/
  doubleSpeed : PpuRegs → Bool
  scrollFine : PpuRegs → Nat
  spritesEnabled : PpuRegs → Bool
  bgEnabled : PpuRegs → Bool
  /-- the palette and color index that stand for a background pixel while the background is disabled (not in the source, N29) -/
  bgOff : PpuRegs → Nat × BitVec 2
  tallSprites : PpuRegs → Bool
  windowEnabled : PpuRegs → Bool
  windowX : PpuRegs → Nat

end Sys2Proof.Machine
end

