-- ==== Sys2Proof/Machine/State.lean ====
section
/-!
DEFINITION. The state of the machine as plain data (spec/10_state.md, 50_ppu_scanline.md R341), its reasons to stop, and
the state after reset (70_reset_and_hazards.md R420).
-/

namespace Sys2Proof.Machine

/-- The reasons the machine can stop with a fault: none. Every open point of the spec is an exception, a parameter, an
oracle answer or a refusal ("No behaviour of this spec is `stuck`", 93_implementation_defined.md), and every address of the
flat 32-bit space exists (R60), so no step faults. -/
inductive Fault
  deriving DecidableEq, Repr

/-- The situations to which the spec gives no meaning, each its own `refuse(reason)` (R14). All are safe: the model stops
where the hardware would go on in some way the spec does not say. -/
inductive Refusal
  /-- raised by exec for an instruction that has no meaning yet; safe -/
  | notModelled (mnemonic : String)
  /-- `refuse(branch_in_delay_slot)`: a branch or jump executed with bd = 1 (R143, D5); raised by every branch and jump; safe -/
  | branchInDelaySlot
  /-- `refuse(absent_coprocessor)`: a usable coprocessor 0, 1 or 3 asked for what the core does not have (R320 to R322, D9);
  raised by COP1, COP3, LWC0, LWC1, LWC3, SWC0, SWC1, SWC3; safe -/
  | absentCoprocessor
  /-- `refuse(biu_partial_access)`: a load or store of 1, 2 or 3 bytes at 0xFFFE0130 (R67, D24); raised by LB, LBU, LH, LHU, LWL,
  SB, SH and SWL (LWR and SWR move the whole word at that address); safe -/
  | biuPartialAccess
  /-- `refuse(fetch_not_fetchable)`: an instruction fetch outside `FETCHABLE` (R85, D17); raised by the fetch; safe -/
  | fetchNotFetchable
  /-- an interrupt at a COP2 command when `GTE_ON_INTERRUPT` is `refuse` (R141, D11); raised by the step; safe -/
  | gteInterrupted
  /-- `refuse(irq_line_out_of_range)`: the host names an interrupt line above 5 (R385); raised by `assertIrq`; safe -/
  | irqLineOutOfRange
  /-- the host names an integer id that is no register's (R148); raised by `getRegister` and `setRegister`; safe -/
  | registerIdOutOfRange
  /-- the host asks the PPU to advance to a cycle already past (R354); raised by the PPU's calls; safe -/
  | ppuTargetInPast
  deriving DecidableEq, Repr

/-- A pending load: the register it is for and the value it delivers (R26). -/
structure PendingLoad where
  reg : RegNum
  val : Word
  deriving DecidableEq, Repr

/-- One entry of the instruction cache: the tag and validity word, and the cached word (R42, R43). -/
structure IcEntry where
  tv : Word
  data : Word
  deriving DecidableEq, Repr

/-- A sparse table: (key, value) pairs with keys strictly rising, none holding what an unlisted key reads as. -/
abbrev Table (α : Type) := List (Nat × α)

/-- Bytes by address; an unlisted address reads as zero. -/
abbrev Memory := List Host.Cell

/-- The instruction cache `ic[0..1023]` (R42): the entries listed, and the one value of all the others. -/
structure ICache where
  listed : Table IcEntry
  other : IcEntry
  deriving DecidableEq, Repr

/-- The machine. -/
structure State where
  /-- r0..r31 (R20) -/
  regs : Vector Word 32
  /-- the address of the instruction that executes now (R22) -/
  pc : Word
  /-- the address of the instruction that executes after it (R22) -/
  npc : Word
  /-- the instruction at pc is in a branch-delay slot (R24) -/
  bd : Bool
  /-- the branch owning this delay slot was taken (R24) -/
  bt : Bool
  /-- the multiply/divide pair (R25) -/
  hi : Word
  lo : Word
  /-- the pending load (R26) -/
  ld : Option PendingLoad
  /-- the pending load's read-absorption cycle count, timing only (R26) -/
  readAbsorb : Nat
  /-- cop0 register 12, status (R29) -/
  sr : Word
  /-- cop0 register 13 (R31) -/
  cause : Word
  /-- cop0 register 14 (R33) -/
  epc : Word
  /-- cop0 register 8 (R34) -/
  badVaddr : Word
  /-- cop0 register 6, branch target at trap (R35) -/
  tar : Word
  /-- cop0 register 15 (R36) -/
  prid : Word
  /-- cop0 register 3 (R37) -/
  bpc : Word
  /-- cop0 register 5 (R37) -/
  bda : Word
  /-- cop0 register 9 (R37) -/
  bdam : Word
  /-- cop0 register 11 (R37) -/
  bpcm : Word
  /-- cop0 register 7 (R38) -/
  dcic : Word
  /-- the cache control register at 0xFFFE0130 (R40) -/
  biu : Word
  /-- the instruction cache (R42) -/
  ic : ICache
  /-- the scratchpad, by offset 0..1023 (R44) -/
  scratch : Memory
  /-- the contents of the platform's memory-like regions, by physical address (R68, R87) -/
  mem : Memory
  /-- what the core has asked of its external agents, newest first (R68, R310) -/
  events : List Event
  /-- the cycle counter (R46) -/
  timestamp : Nat
  /-- how many steps have drawn free values (the model's own) -/
  draws : Nat
  /-- the parameters of R8, which no step writes -/
  params : Params
  /-- the companion block (R341) -/
  ppu : Ppu
  deriving DecidableEq, Repr

/-- The state after reset (R420, R359). Memory lists nothing: its contents belong to the platform. -/
def State.reset : State where
  regs := Vector.replicate 32 0
  pc := 0xBFC00000
  npc := 0xBFC00004
  bd := false
  bt := false
  hi := 0
  lo := 0
  ld := none
  readAbsorb := 0
  sr := 0x00600000
  cause := 0
  epc := 0
  badVaddr := 0
  tar := 0
  prid := 0x00000002
  bpc := 0
  bda := 0
  bdam := 0
  bpcm := 0
  dcic := 0
  biu := 0
  ic := ⟨[], ⟨0x00000003, 0x00000000⟩⟩
  scratch := []
  mem := []
  events := []
  timestamp := 0
  draws := 0
  params := Params.default
  ppu := Ppu.reset

end Sys2Proof.Machine
end

