-- ==== Sys2Proof/Machine/Flags.lean ====
section
/-!
DEFINITION. The conditions the instructions compute. The core has no flags and no condition codes (R27): a comparison writes
a register or decides a branch, and overflow raises an exception.
-/

namespace Sys2Proof.Machine

/-- Signed overflow of a sum, by the XOR of signs (R170). -/
def addOverflows (a b : Word) : Bool := ((~~~(a ^^^ b)) &&& (a ^^^ (a + b))).getLsbD 31

/-- Signed overflow of a difference, by the XOR of signs (R170). -/
def subOverflows (a b : Word) : Bool := ((a ^^^ b) &&& (a ^^^ (a - b))).getLsbD 31

/-- A condition as the value a set-on-less-than writes (R179). -/
def boolWord (c : Bool) : Word := if c then 1 else 0

/-- `<s`, signed less-than (R10). -/
def lessSigned (a b : Word) : Bool := a.slt b

/-- `<u`, unsigned less-than (R10). -/
def lessUnsigned (a b : Word) : Bool := a.ult b

/-- The sign test of BLTZ and BLTZAL, `v[31] = 1` (R240). -/
def isNegative (v : Word) : Bool := v.getLsbD 31

/-- The condition input of coprocessor 0, constant false (R298). -/
def cop0Condition : Bool := false

/-- The condition input of coprocessor 2, constant false (R318). -/
def cop2Condition : Bool := false

end Sys2Proof.Machine
end

