-- ==== Sys2Proof/Syntax.lean ====
section
/-!
DEFINITION. The instructions: one constructor per row of spec/opcode_table.json (30_encoding.md R109 to R118).

A constructor carries the operands its rule names, in assembler order (R119). A field that R116 says decode ignores is no
operand, nor are the don't-care bits of a reserved word (R115) or of a coprocessor no-operation (R296, R319): their value
does not change the instruction. The rows with operands come first, those without after them.
-/

namespace Sys2Proof

/-- The instruction set of the core: 255 rows, disjoint and total over 32-bit words (R118). -/
inductive Instr
  -- SPECIAL: primary opcode 0, selected by funct (R101, R110)
  /-- `SLL`, R189 -/
  | sll (rd : RegNum) (rt : RegNum) (sa : BitVec 5)
  /-- `SRL`, R190 -/
  | srl (rd : RegNum) (rt : RegNum) (sa : BitVec 5)
  /-- `SRA`, R191 -/
  | sra (rd : RegNum) (rt : RegNum) (sa : BitVec 5)
  /-- `SLLV`, R192 -/
  | sllv (rd : RegNum) (rt : RegNum) (rs : RegNum)
  /-- `SRLV`, R193 -/
  | srlv (rd : RegNum) (rt : RegNum) (rs : RegNum)
  /-- `SRAV`, R194 -/
  | srav (rd : RegNum) (rt : RegNum) (rs : RegNum)
  /-- `JR`, R234 -/
  | jr (rs : RegNum)
  /-- `JALR`, R235 -/
  | jalr (rd : RegNum) (rs : RegNum)
  /-- `SYSCALL`, R300 -/
  | syscall (code : BitVec 20)
  /-- `BREAK`, R301 -/
  | brk (code : BitVec 20)
  /-- `MFHI`, R215 -/
  | mfhi (rd : RegNum)
  /-- `MTHI`, R217 -/
  | mthi (rs : RegNum)
  /-- `MFLO`, R216 -/
  | mflo (rd : RegNum)
  /-- `MTLO`, R218 -/
  | mtlo (rs : RegNum)
  /-- `MULT`, R211 -/
  | mult (rs : RegNum) (rt : RegNum)
  /-- `MULTU`, R212 -/
  | multu (rs : RegNum) (rt : RegNum)
  /-- `DIV`, R213 -/
  | div (rs : RegNum) (rt : RegNum)
  /-- `DIVU`, R214 -/
  | divu (rs : RegNum) (rt : RegNum)
  /-- `ADD`, R171 -/
  | add (rd : RegNum) (rs : RegNum) (rt : RegNum)
  /-- `ADDU`, R172 -/
  | addu (rd : RegNum) (rs : RegNum) (rt : RegNum)
  /-- `SUB`, R173 -/
  | sub (rd : RegNum) (rs : RegNum) (rt : RegNum)
  /-- `SUBU`, R174 -/
  | subu (rd : RegNum) (rs : RegNum) (rt : RegNum)
  /-- `AND`, R175 -/
  | and (rd : RegNum) (rs : RegNum) (rt : RegNum)
  /-- `OR`, R176 -/
  | or (rd : RegNum) (rs : RegNum) (rt : RegNum)
  /-- `XOR`, R177 -/
  | xor (rd : RegNum) (rs : RegNum) (rt : RegNum)
  /-- `NOR`, R178 -/
  | nor (rd : RegNum) (rs : RegNum) (rt : RegNum)
  /-- `SLT`, R179 -/
  | slt (rd : RegNum) (rs : RegNum) (rt : RegNum)
  /-- `SLTU`, R180 -/
  | sltu (rd : RegNum) (rs : RegNum) (rt : RegNum)
  -- REGIMM: primary opcode 1, selected by rt (R103, R112); every other rt is an alias of BLTZ or BGEZ without link
  /-- `BLTZ`, R240 -/
  | bltz (rs : RegNum) (imm : BitVec 16)
  /-- `BGEZ`, R241 -/
  | bgez (rs : RegNum) (imm : BitVec 16)
  /-- `BLTZ_ALIAS_RT2`, R240 -/
  | bltzAliasRt2 (rs : RegNum) (imm : BitVec 16)
  /-- `BGEZ_ALIAS_RT3`, R241 -/
  | bgezAliasRt3 (rs : RegNum) (imm : BitVec 16)
  /-- `BLTZ_ALIAS_RT4`, R240 -/
  | bltzAliasRt4 (rs : RegNum) (imm : BitVec 16)
  /-- `BGEZ_ALIAS_RT5`, R241 -/
  | bgezAliasRt5 (rs : RegNum) (imm : BitVec 16)
  /-- `BLTZ_ALIAS_RT6`, R240 -/
  | bltzAliasRt6 (rs : RegNum) (imm : BitVec 16)
  /-- `BGEZ_ALIAS_RT7`, R241 -/
  | bgezAliasRt7 (rs : RegNum) (imm : BitVec 16)
  /-- `BLTZ_ALIAS_RT8`, R240 -/
  | bltzAliasRt8 (rs : RegNum) (imm : BitVec 16)
  /-- `BGEZ_ALIAS_RT9`, R241 -/
  | bgezAliasRt9 (rs : RegNum) (imm : BitVec 16)
  /-- `BLTZ_ALIAS_RT10`, R240 -/
  | bltzAliasRt10 (rs : RegNum) (imm : BitVec 16)
  /-- `BGEZ_ALIAS_RT11`, R241 -/
  | bgezAliasRt11 (rs : RegNum) (imm : BitVec 16)
  /-- `BLTZ_ALIAS_RT12`, R240 -/
  | bltzAliasRt12 (rs : RegNum) (imm : BitVec 16)
  /-- `BGEZ_ALIAS_RT13`, R241 -/
  | bgezAliasRt13 (rs : RegNum) (imm : BitVec 16)
  /-- `BLTZ_ALIAS_RT14`, R240 -/
  | bltzAliasRt14 (rs : RegNum) (imm : BitVec 16)
  /-- `BGEZ_ALIAS_RT15`, R241 -/
  | bgezAliasRt15 (rs : RegNum) (imm : BitVec 16)
  /-- `BLTZAL`, R240 -/
  | bltzal (rs : RegNum) (imm : BitVec 16)
  /-- `BGEZAL`, R241 -/
  | bgezal (rs : RegNum) (imm : BitVec 16)
  /-- `BLTZ_ALIAS_RT18`, R240 -/
  | bltzAliasRt18 (rs : RegNum) (imm : BitVec 16)
  /-- `BGEZ_ALIAS_RT19`, R241 -/
  | bgezAliasRt19 (rs : RegNum) (imm : BitVec 16)
  /-- `BLTZ_ALIAS_RT20`, R240 -/
  | bltzAliasRt20 (rs : RegNum) (imm : BitVec 16)
  /-- `BGEZ_ALIAS_RT21`, R241 -/
  | bgezAliasRt21 (rs : RegNum) (imm : BitVec 16)
  /-- `BLTZ_ALIAS_RT22`, R240 -/
  | bltzAliasRt22 (rs : RegNum) (imm : BitVec 16)
  /-- `BGEZ_ALIAS_RT23`, R241 -/
  | bgezAliasRt23 (rs : RegNum) (imm : BitVec 16)
  /-- `BLTZ_ALIAS_RT24`, R240 -/
  | bltzAliasRt24 (rs : RegNum) (imm : BitVec 16)
  /-- `BGEZ_ALIAS_RT25`, R241 -/
  | bgezAliasRt25 (rs : RegNum) (imm : BitVec 16)
  /-- `BLTZ_ALIAS_RT26`, R240 -/
  | bltzAliasRt26 (rs : RegNum) (imm : BitVec 16)
  /-- `BGEZ_ALIAS_RT27`, R241 -/
  | bgezAliasRt27 (rs : RegNum) (imm : BitVec 16)
  /-- `BLTZ_ALIAS_RT28`, R240 -/
  | bltzAliasRt28 (rs : RegNum) (imm : BitVec 16)
  /-- `BGEZ_ALIAS_RT29`, R241 -/
  | bgezAliasRt29 (rs : RegNum) (imm : BitVec 16)
  /-- `BLTZ_ALIAS_RT30`, R240 -/
  | bltzAliasRt30 (rs : RegNum) (imm : BitVec 16)
  /-- `BGEZ_ALIAS_RT31`, R241 -/
  | bgezAliasRt31 (rs : RegNum) (imm : BitVec 16)
  -- J format (R104)
  /-- `J`, R233 -/
  | j (target : BitVec 26)
  /-- `JAL`, R233 -/
  | jal (target : BitVec 26)
  -- I format: branches and immediate arithmetic (R102)
  /-- `BEQ`, R236 -/
  | beq (rs : RegNum) (rt : RegNum) (imm : BitVec 16)
  /-- `BNE`, R237 -/
  | bne (rs : RegNum) (rt : RegNum) (imm : BitVec 16)
  /-- `BLEZ`, R238 -/
  | blez (rs : RegNum) (imm : BitVec 16)
  /-- `BGTZ`, R239 -/
  | bgtz (rs : RegNum) (imm : BitVec 16)
  /-- `ADDI`, R181 -/
  | addi (rt : RegNum) (rs : RegNum) (imm : BitVec 16)
  /-- `ADDIU`, R182 -/
  | addiu (rt : RegNum) (rs : RegNum) (imm : BitVec 16)
  /-- `SLTI`, R183 -/
  | slti (rt : RegNum) (rs : RegNum) (imm : BitVec 16)
  /-- `SLTIU`, R184 -/
  | sltiu (rt : RegNum) (rs : RegNum) (imm : BitVec 16)
  /-- `ANDI`, R185 -/
  | andi (rt : RegNum) (rs : RegNum) (imm : BitVec 16)
  /-- `ORI`, R186 -/
  | ori (rt : RegNum) (rs : RegNum) (imm : BitVec 16)
  /-- `XORI`, R187 -/
  | xori (rt : RegNum) (rs : RegNum) (imm : BitVec 16)
  /-- `LUI`, R188 -/
  | lui (rt : RegNum) (imm : BitVec 16)
  -- coprocessors 1 and 3, absent (R320)
  /-- `COP1`, R320 -/
  | cop1 (cofun : BitVec 26)
  /-- `COP3`, R320 -/
  | cop3 (cofun : BitVec 26)
  -- loads and stores (R102)
  /-- `LB`, R263 -/
  | lb (rt : RegNum) (rs : RegNum) (imm : BitVec 16)
  /-- `LH`, R265 -/
  | lh (rt : RegNum) (rs : RegNum) (imm : BitVec 16)
  /-- `LWL`, R266 -/
  | lwl (rt : RegNum) (rs : RegNum) (imm : BitVec 16)
  /-- `LW`, R268 -/
  | lw (rt : RegNum) (rs : RegNum) (imm : BitVec 16)
  /-- `LBU`, R264 -/
  | lbu (rt : RegNum) (rs : RegNum) (imm : BitVec 16)
  /-- `LHU`, R265 -/
  | lhu (rt : RegNum) (rs : RegNum) (imm : BitVec 16)
  /-- `LWR`, R267 -/
  | lwr (rt : RegNum) (rs : RegNum) (imm : BitVec 16)
  /-- `SB`, R269 -/
  | sb (rt : RegNum) (rs : RegNum) (imm : BitVec 16)
  /-- `SH`, R270 -/
  | sh (rt : RegNum) (rs : RegNum) (imm : BitVec 16)
  /-- `SWL`, R272 -/
  | swl (rt : RegNum) (rs : RegNum) (imm : BitVec 16)
  /-- `SW`, R271 -/
  | sw (rt : RegNum) (rs : RegNum) (imm : BitVec 16)
  /-- `SWR`, R273 -/
  | swr (rt : RegNum) (rs : RegNum) (imm : BitVec 16)
  -- coprocessor loads and stores (R106)
  /-- `LWC0`, R321 -/
  | lwc0 (rt : RegNum) (rs : RegNum) (imm : BitVec 16)
  /-- `LWC1`, R321 -/
  | lwc1 (rt : RegNum) (rs : RegNum) (imm : BitVec 16)
  /-- `LWC2`, R315 -/
  | lwc2 (rt : RegNum) (rs : RegNum) (imm : BitVec 16)
  /-- `LWC3`, R321 -/
  | lwc3 (rt : RegNum) (rs : RegNum) (imm : BitVec 16)
  /-- `SWC0`, R322 -/
  | swc0 (rt : RegNum) (rs : RegNum) (imm : BitVec 16)
  /-- `SWC1`, R322 -/
  | swc1 (rt : RegNum) (rs : RegNum) (imm : BitVec 16)
  /-- `SWC2`, R316 -/
  | swc2 (rt : RegNum) (rs : RegNum) (imm : BitVec 16)
  /-- `SWC3`, R322 -/
  | swc3 (rt : RegNum) (rs : RegNum) (imm : BitVec 16)
  -- coprocessor 0 (R105, R113)
  /-- `MFC0`, R290 -/
  | mfc0 (rt : RegNum) (rd : RegNum)
  /-- `CFC0`, R294 -/
  | cfc0 (rt : RegNum) (rd : RegNum)
  /-- `MTC0`, R291 -/
  | mtc0 (rt : RegNum) (rd : RegNum)
  /-- `CTC0`, R294 -/
  | ctc0 (rt : RegNum) (rd : RegNum)
  /-- `BC0F`, R298 -/
  | bc0f (imm : BitVec 16)
  /-- `BC0T`, R298 -/
  | bc0t (imm : BitVec 16)
  -- coprocessor 2, the GTE (R105, R114)
  /-- `MFC2`, R311 -/
  | mfc2 (rt : RegNum) (rd : RegNum)
  /-- `CFC2`, R312 -/
  | cfc2 (rt : RegNum) (rd : RegNum)
  /-- `MTC2`, R313 -/
  | mtc2 (rt : RegNum) (rd : RegNum)
  /-- `CTC2`, R314 -/
  | ctc2 (rt : RegNum) (rd : RegNum)
  /-- `BC2F`, R318 -/
  | bc2f (imm : BitVec 16)
  /-- `BC2T`, R318 -/
  | bc2t (imm : BitVec 16)
  /-- `COP2`, R317 -/
  | cop2 (cofun : BitVec 25)
  -- SPECIAL: primary opcode 0, selected by funct (R101, R110), without operands
  /-- `RESERVED_SPECIAL_01`, R115 -/
  | reservedSpecial01
  /-- `RESERVED_SPECIAL_05`, R115 -/
  | reservedSpecial05
  /-- `RESERVED_SPECIAL_0A`, R115 -/
  | reservedSpecial0a
  /-- `RESERVED_SPECIAL_0B`, R115 -/
  | reservedSpecial0b
  /-- `RESERVED_SPECIAL_0E`, R115 -/
  | reservedSpecial0e
  /-- `RESERVED_SPECIAL_0F`, R115 -/
  | reservedSpecial0f
  /-- `RESERVED_SPECIAL_14`, R115 -/
  | reservedSpecial14
  /-- `RESERVED_SPECIAL_15`, R115 -/
  | reservedSpecial15
  /-- `RESERVED_SPECIAL_16`, R115 -/
  | reservedSpecial16
  /-- `RESERVED_SPECIAL_17`, R115 -/
  | reservedSpecial17
  /-- `RESERVED_SPECIAL_1C`, R115 -/
  | reservedSpecial1c
  /-- `RESERVED_SPECIAL_1D`, R115 -/
  | reservedSpecial1d
  /-- `RESERVED_SPECIAL_1E`, R115 -/
  | reservedSpecial1e
  /-- `RESERVED_SPECIAL_1F`, R115 -/
  | reservedSpecial1f
  /-- `RESERVED_SPECIAL_28`, R115 -/
  | reservedSpecial28
  /-- `RESERVED_SPECIAL_29`, R115 -/
  | reservedSpecial29
  /-- `RESERVED_SPECIAL_2C`, R115 -/
  | reservedSpecial2c
  /-- `RESERVED_SPECIAL_2D`, R115 -/
  | reservedSpecial2d
  /-- `RESERVED_SPECIAL_2E`, R115 -/
  | reservedSpecial2e
  /-- `RESERVED_SPECIAL_2F`, R115 -/
  | reservedSpecial2f
  /-- `RESERVED_SPECIAL_30`, R115 -/
  | reservedSpecial30
  /-- `RESERVED_SPECIAL_31`, R115 -/
  | reservedSpecial31
  /-- `RESERVED_SPECIAL_32`, R115 -/
  | reservedSpecial32
  /-- `RESERVED_SPECIAL_33`, R115 -/
  | reservedSpecial33
  /-- `RESERVED_SPECIAL_34`, R115 -/
  | reservedSpecial34
  /-- `RESERVED_SPECIAL_35`, R115 -/
  | reservedSpecial35
  /-- `RESERVED_SPECIAL_36`, R115 -/
  | reservedSpecial36
  /-- `RESERVED_SPECIAL_37`, R115 -/
  | reservedSpecial37
  /-- `RESERVED_SPECIAL_38`, R115 -/
  | reservedSpecial38
  /-- `RESERVED_SPECIAL_39`, R115 -/
  | reservedSpecial39
  /-- `RESERVED_SPECIAL_3A`, R115 -/
  | reservedSpecial3a
  /-- `RESERVED_SPECIAL_3B`, R115 -/
  | reservedSpecial3b
  /-- `RESERVED_SPECIAL_3C`, R115 -/
  | reservedSpecial3c
  /-- `RESERVED_SPECIAL_3D`, R115 -/
  | reservedSpecial3d
  /-- `RESERVED_SPECIAL_3E`, R115 -/
  | reservedSpecial3e
  /-- `RESERVED_SPECIAL_3F`, R115 -/
  | reservedSpecial3f
  -- reserved primary opcodes (R115), without operands
  /-- `RESERVED_OP_14`, R115 -/
  | reservedOp14
  /-- `RESERVED_OP_15`, R115 -/
  | reservedOp15
  /-- `RESERVED_OP_16`, R115 -/
  | reservedOp16
  /-- `RESERVED_OP_17`, R115 -/
  | reservedOp17
  /-- `RESERVED_OP_18`, R115 -/
  | reservedOp18
  /-- `RESERVED_OP_19`, R115 -/
  | reservedOp19
  /-- `RESERVED_OP_1A`, R115 -/
  | reservedOp1a
  /-- `RESERVED_OP_1B`, R115 -/
  | reservedOp1b
  /-- `RESERVED_OP_1C`, R115 -/
  | reservedOp1c
  /-- `RESERVED_OP_1D`, R115 -/
  | reservedOp1d
  /-- `RESERVED_OP_1E`, R115 -/
  | reservedOp1e
  /-- `RESERVED_OP_1F`, R115 -/
  | reservedOp1f
  /-- `RESERVED_OP_27`, R115 -/
  | reservedOp27
  /-- `RESERVED_OP_2C`, R115 -/
  | reservedOp2c
  /-- `RESERVED_OP_2D`, R115 -/
  | reservedOp2d
  /-- `RESERVED_OP_2F`, R115 -/
  | reservedOp2f
  /-- `RESERVED_OP_34`, R115 -/
  | reservedOp34
  /-- `RESERVED_OP_35`, R115 -/
  | reservedOp35
  /-- `RESERVED_OP_36`, R115 -/
  | reservedOp36
  /-- `RESERVED_OP_37`, R115 -/
  | reservedOp37
  /-- `RESERVED_OP_3C`, R115 -/
  | reservedOp3c
  /-- `RESERVED_OP_3D`, R115 -/
  | reservedOp3d
  /-- `RESERVED_OP_3E`, R115 -/
  | reservedOp3e
  /-- `RESERVED_OP_3F`, R115 -/
  | reservedOp3f
  -- coprocessor 0 (R105, R113), without operands
  /-- `COP0_NOP_RS01`, R296 -/
  | cop0NopRs01
  /-- `COP0_NOP_RS03`, R296 -/
  | cop0NopRs03
  /-- `COP0_NOP_RS05`, R296 -/
  | cop0NopRs05
  /-- `COP0_NOP_RS07`, R296 -/
  | cop0NopRs07
  /-- `COP0_NOP_RS09`, R296 -/
  | cop0NopRs09
  /-- `COP0_NOP_RS10`, R296 -/
  | cop0NopRs10
  /-- `COP0_NOP_RS11`, R296 -/
  | cop0NopRs11
  /-- `COP0_NOP_RS12`, R296 -/
  | cop0NopRs12
  /-- `COP0_NOP_RS13`, R296 -/
  | cop0NopRs13
  /-- `COP0_NOP_RS14`, R296 -/
  | cop0NopRs14
  /-- `COP0_NOP_RS15`, R296 -/
  | cop0NopRs15
  /-- `COP0_CO_NOP_00`, R296 -/
  | cop0CoNop00
  /-- `TLBR`, R295 -/
  | tlbr
  /-- `TLBWI`, R295 -/
  | tlbwi
  /-- `COP0_CO_NOP_03`, R296 -/
  | cop0CoNop03
  /-- `COP0_CO_NOP_04`, R296 -/
  | cop0CoNop04
  /-- `COP0_CO_NOP_05`, R296 -/
  | cop0CoNop05
  /-- `TLBWR`, R295 -/
  | tlbwr
  /-- `COP0_CO_NOP_07`, R296 -/
  | cop0CoNop07
  /-- `TLBP`, R295 -/
  | tlbp
  /-- `COP0_CO_NOP_09`, R296 -/
  | cop0CoNop09
  /-- `COP0_CO_NOP_0A`, R296 -/
  | cop0CoNop0a
  /-- `COP0_CO_NOP_0B`, R296 -/
  | cop0CoNop0b
  /-- `COP0_CO_NOP_0C`, R296 -/
  | cop0CoNop0c
  /-- `COP0_CO_NOP_0D`, R296 -/
  | cop0CoNop0d
  /-- `COP0_CO_NOP_0E`, R296 -/
  | cop0CoNop0e
  /-- `COP0_CO_NOP_0F`, R296 -/
  | cop0CoNop0f
  /-- `RFE`, R292 -/
  | rfe
  /-- `COP0_CO_NOP_11`, R296 -/
  | cop0CoNop11
  /-- `COP0_CO_NOP_12`, R296 -/
  | cop0CoNop12
  /-- `COP0_CO_NOP_13`, R296 -/
  | cop0CoNop13
  /-- `COP0_CO_NOP_14`, R296 -/
  | cop0CoNop14
  /-- `COP0_CO_NOP_15`, R296 -/
  | cop0CoNop15
  /-- `COP0_CO_NOP_16`, R296 -/
  | cop0CoNop16
  /-- `COP0_CO_NOP_17`, R296 -/
  | cop0CoNop17
  /-- `COP0_CO_NOP_18`, R296 -/
  | cop0CoNop18
  /-- `COP0_CO_NOP_19`, R296 -/
  | cop0CoNop19
  /-- `COP0_CO_NOP_1A`, R296 -/
  | cop0CoNop1a
  /-- `COP0_CO_NOP_1B`, R296 -/
  | cop0CoNop1b
  /-- `COP0_CO_NOP_1C`, R296 -/
  | cop0CoNop1c
  /-- `COP0_CO_NOP_1D`, R296 -/
  | cop0CoNop1d
  /-- `COP0_CO_NOP_1E`, R296 -/
  | cop0CoNop1e
  /-- `COP0_CO_NOP_1F`, R296 -/
  | cop0CoNop1f
  /-- `COP0_CO_NOP_20`, R296 -/
  | cop0CoNop20
  /-- `COP0_CO_NOP_21`, R296 -/
  | cop0CoNop21
  /-- `COP0_CO_NOP_22`, R296 -/
  | cop0CoNop22
  /-- `COP0_CO_NOP_23`, R296 -/
  | cop0CoNop23
  /-- `COP0_CO_NOP_24`, R296 -/
  | cop0CoNop24
  /-- `COP0_CO_NOP_25`, R296 -/
  | cop0CoNop25
  /-- `COP0_CO_NOP_26`, R296 -/
  | cop0CoNop26
  /-- `COP0_CO_NOP_27`, R296 -/
  | cop0CoNop27
  /-- `COP0_CO_NOP_28`, R296 -/
  | cop0CoNop28
  /-- `COP0_CO_NOP_29`, R296 -/
  | cop0CoNop29
  /-- `COP0_CO_NOP_2A`, R296 -/
  | cop0CoNop2a
  /-- `COP0_CO_NOP_2B`, R296 -/
  | cop0CoNop2b
  /-- `COP0_CO_NOP_2C`, R296 -/
  | cop0CoNop2c
  /-- `COP0_CO_NOP_2D`, R296 -/
  | cop0CoNop2d
  /-- `COP0_CO_NOP_2E`, R296 -/
  | cop0CoNop2e
  /-- `COP0_CO_NOP_2F`, R296 -/
  | cop0CoNop2f
  /-- `COP0_CO_NOP_30`, R296 -/
  | cop0CoNop30
  /-- `COP0_CO_NOP_31`, R296 -/
  | cop0CoNop31
  /-- `COP0_CO_NOP_32`, R296 -/
  | cop0CoNop32
  /-- `COP0_CO_NOP_33`, R296 -/
  | cop0CoNop33
  /-- `COP0_CO_NOP_34`, R296 -/
  | cop0CoNop34
  /-- `COP0_CO_NOP_35`, R296 -/
  | cop0CoNop35
  /-- `COP0_CO_NOP_36`, R296 -/
  | cop0CoNop36
  /-- `COP0_CO_NOP_37`, R296 -/
  | cop0CoNop37
  /-- `COP0_CO_NOP_38`, R296 -/
  | cop0CoNop38
  /-- `COP0_CO_NOP_39`, R296 -/
  | cop0CoNop39
  /-- `COP0_CO_NOP_3A`, R296 -/
  | cop0CoNop3a
  /-- `COP0_CO_NOP_3B`, R296 -/
  | cop0CoNop3b
  /-- `COP0_CO_NOP_3C`, R296 -/
  | cop0CoNop3c
  /-- `COP0_CO_NOP_3D`, R296 -/
  | cop0CoNop3d
  /-- `COP0_CO_NOP_3E`, R296 -/
  | cop0CoNop3e
  /-- `COP0_CO_NOP_3F`, R296 -/
  | cop0CoNop3f
  -- coprocessor 2, the GTE (R105, R114), without operands
  /-- `COP2_NOP_RS01`, R319 -/
  | cop2NopRs01
  /-- `COP2_NOP_RS03`, R319 -/
  | cop2NopRs03
  /-- `COP2_NOP_RS05`, R319 -/
  | cop2NopRs05
  /-- `COP2_NOP_RS07`, R319 -/
  | cop2NopRs07
  /-- `COP2_NOP_RS09`, R319 -/
  | cop2NopRs09
  /-- `COP2_NOP_RS10`, R319 -/
  | cop2NopRs10
  /-- `COP2_NOP_RS11`, R319 -/
  | cop2NopRs11
  /-- `COP2_NOP_RS12`, R319 -/
  | cop2NopRs12
  /-- `COP2_NOP_RS13`, R319 -/
  | cop2NopRs13
  /-- `COP2_NOP_RS14`, R319 -/
  | cop2NopRs14
  /-- `COP2_NOP_RS15`, R319 -/
  | cop2NopRs15
  deriving DecidableEq, Repr

end Sys2Proof
end

