-- ==== Sys2Proof/Decode.lean ====
section
/-!
DEFINITION. Decode and encode (spec/30_encoding.md). Decode is total and never refuses a word (R118); a byte list too short
to hold a word is refused by name. The encoder stands after it and is written from the same tables.
-/

namespace Sys2Proof

/-! ## Fields of an instruction word (R15, R101 to R106) -/

/-- `op = instr[31:26]` -/
def opField (w : Word) : Opcode := w.extractLsb' 26 6
/-- `rs = instr[25:21]` -/
def rsField (w : Word) : RegNum := w.extractLsb' 21 5
/-- `rt = instr[20:16]` -/
def rtField (w : Word) : RegNum := w.extractLsb' 16 5
/-- `rd = instr[15:11]` -/
def rdField (w : Word) : RegNum := w.extractLsb' 11 5
/-- `sa = instr[10:6]` -/
def saField (w : Word) : BitVec 5 := w.extractLsb' 6 5
/-- `funct = instr[5:0]` -/
def functField (w : Word) : BitVec 6 := w.extractLsb' 0 6
/-- `imm16 = instr[15:0]` -/
def immField (w : Word) : BitVec 16 := w.extractLsb' 0 16
/-- `target26 = instr[25:0]` -/
def targetField (w : Word) : BitVec 26 := w.extractLsb' 0 26
/-- `cofun = instr[24:0]` -/
def cofunField (w : Word) : BitVec 25 := w.extractLsb' 0 25
/-- the code field of SYSCALL and BREAK, `instr[25:6]` (R107) -/
def codeField (w : Word) : BitVec 20 := w.extractLsb' 6 20
/-- `instr[16]`, which tells BCzF from BCzT (R105) -/
def condField (w : Word) : Bool := w.getLsbD 16
/-- `instr[27:26]`, recorded in Cause.CE by trap entry (R379) -/
def ceField (w : Word) : BitVec 2 := w.extractLsb' 26 2

/-! ## Primary opcodes (R109) -/

/-- the opcode of SPECIAL -/
abbrev Op.special : Opcode := 0x00#6
/-- the opcode of REGIMM -/
abbrev Op.regimm : Opcode := 0x01#6
/-- primary opcode of J -/
abbrev Op.j : Opcode := 0x02#6
/-- primary opcode of JAL -/
abbrev Op.jal : Opcode := 0x03#6
/-- primary opcode of BEQ -/
abbrev Op.beq : Opcode := 0x04#6
/-- primary opcode of BNE -/
abbrev Op.bne : Opcode := 0x05#6
/-- primary opcode of BLEZ -/
abbrev Op.blez : Opcode := 0x06#6
/-- primary opcode of BGTZ -/
abbrev Op.bgtz : Opcode := 0x07#6
/-- primary opcode of ADDI -/
abbrev Op.addi : Opcode := 0x08#6
/-- primary opcode of ADDIU -/
abbrev Op.addiu : Opcode := 0x09#6
/-- primary opcode of SLTI -/
abbrev Op.slti : Opcode := 0x0A#6
/-- primary opcode of SLTIU -/
abbrev Op.sltiu : Opcode := 0x0B#6
/-- primary opcode of ANDI -/
abbrev Op.andi : Opcode := 0x0C#6
/-- primary opcode of ORI -/
abbrev Op.ori : Opcode := 0x0D#6
/-- primary opcode of XORI -/
abbrev Op.xori : Opcode := 0x0E#6
/-- primary opcode of LUI -/
abbrev Op.lui : Opcode := 0x0F#6
/-- primary opcode of COP0 -/
abbrev Op.cop0 : Opcode := 0x10#6
/-- primary opcode of COP1 -/
abbrev Op.cop1 : Opcode := 0x11#6
/-- primary opcode of COP2 -/
abbrev Op.cop2 : Opcode := 0x12#6
/-- primary opcode of COP3 -/
abbrev Op.cop3 : Opcode := 0x13#6
/-- primary opcode of LB -/
abbrev Op.lb : Opcode := 0x20#6
/-- primary opcode of LH -/
abbrev Op.lh : Opcode := 0x21#6
/-- primary opcode of LWL -/
abbrev Op.lwl : Opcode := 0x22#6
/-- primary opcode of LW -/
abbrev Op.lw : Opcode := 0x23#6
/-- primary opcode of LBU -/
abbrev Op.lbu : Opcode := 0x24#6
/-- primary opcode of LHU -/
abbrev Op.lhu : Opcode := 0x25#6
/-- primary opcode of LWR -/
abbrev Op.lwr : Opcode := 0x26#6
/-- primary opcode of SB -/
abbrev Op.sb : Opcode := 0x28#6
/-- primary opcode of SH -/
abbrev Op.sh : Opcode := 0x29#6
/-- primary opcode of SWL -/
abbrev Op.swl : Opcode := 0x2A#6
/-- primary opcode of SW -/
abbrev Op.sw : Opcode := 0x2B#6
/-- primary opcode of SWR -/
abbrev Op.swr : Opcode := 0x2E#6
/-- primary opcode of LWC0 -/
abbrev Op.lwc0 : Opcode := 0x30#6
/-- primary opcode of LWC1 -/
abbrev Op.lwc1 : Opcode := 0x31#6
/-- primary opcode of LWC2 -/
abbrev Op.lwc2 : Opcode := 0x32#6
/-- primary opcode of LWC3 -/
abbrev Op.lwc3 : Opcode := 0x33#6
/-- primary opcode of SWC0 -/
abbrev Op.swc0 : Opcode := 0x38#6
/-- primary opcode of SWC1 -/
abbrev Op.swc1 : Opcode := 0x39#6
/-- primary opcode of SWC2 -/
abbrev Op.swc2 : Opcode := 0x3A#6
/-- primary opcode of SWC3 -/
abbrev Op.swc3 : Opcode := 0x3B#6

/-! ## Decode -/

/-- The SPECIAL map (R110): funct 0x3F, reserved, is the last row. -/
def decodeSpecial (w : Word) : Instr :=
  match functField w with
  | 0x00#6 => .sll (rdField w) (rtField w) (saField w)
  | 0x01#6 => .reservedSpecial01
  | 0x02#6 => .srl (rdField w) (rtField w) (saField w)
  | 0x03#6 => .sra (rdField w) (rtField w) (saField w)
  | 0x04#6 => .sllv (rdField w) (rtField w) (rsField w)
  | 0x05#6 => .reservedSpecial05
  | 0x06#6 => .srlv (rdField w) (rtField w) (rsField w)
  | 0x07#6 => .srav (rdField w) (rtField w) (rsField w)
  | 0x08#6 => .jr (rsField w)
  | 0x09#6 => .jalr (rdField w) (rsField w)
  | 0x0A#6 => .reservedSpecial0a
  | 0x0B#6 => .reservedSpecial0b
  | 0x0C#6 => .syscall (codeField w)
  | 0x0D#6 => .brk (codeField w)
  | 0x0E#6 => .reservedSpecial0e
  | 0x0F#6 => .reservedSpecial0f
  | 0x10#6 => .mfhi (rdField w)
  | 0x11#6 => .mthi (rsField w)
  | 0x12#6 => .mflo (rdField w)
  | 0x13#6 => .mtlo (rsField w)
  | 0x14#6 => .reservedSpecial14
  | 0x15#6 => .reservedSpecial15
  | 0x16#6 => .reservedSpecial16
  | 0x17#6 => .reservedSpecial17
  | 0x18#6 => .mult (rsField w) (rtField w)
  | 0x19#6 => .multu (rsField w) (rtField w)
  | 0x1A#6 => .div (rsField w) (rtField w)
  | 0x1B#6 => .divu (rsField w) (rtField w)
  | 0x1C#6 => .reservedSpecial1c
  | 0x1D#6 => .reservedSpecial1d
  | 0x1E#6 => .reservedSpecial1e
  | 0x1F#6 => .reservedSpecial1f
  | 0x20#6 => .add (rdField w) (rsField w) (rtField w)
  | 0x21#6 => .addu (rdField w) (rsField w) (rtField w)
  | 0x22#6 => .sub (rdField w) (rsField w) (rtField w)
  | 0x23#6 => .subu (rdField w) (rsField w) (rtField w)
  | 0x24#6 => .and (rdField w) (rsField w) (rtField w)
  | 0x25#6 => .or (rdField w) (rsField w) (rtField w)
  | 0x26#6 => .xor (rdField w) (rsField w) (rtField w)
  | 0x27#6 => .nor (rdField w) (rsField w) (rtField w)
  | 0x28#6 => .reservedSpecial28
  | 0x29#6 => .reservedSpecial29
  | 0x2A#6 => .slt (rdField w) (rsField w) (rtField w)
  | 0x2B#6 => .sltu (rdField w) (rsField w) (rtField w)
  | 0x2C#6 => .reservedSpecial2c
  | 0x2D#6 => .reservedSpecial2d
  | 0x2E#6 => .reservedSpecial2e
  | 0x2F#6 => .reservedSpecial2f
  | 0x30#6 => .reservedSpecial30
  | 0x31#6 => .reservedSpecial31
  | 0x32#6 => .reservedSpecial32
  | 0x33#6 => .reservedSpecial33
  | 0x34#6 => .reservedSpecial34
  | 0x35#6 => .reservedSpecial35
  | 0x36#6 => .reservedSpecial36
  | 0x37#6 => .reservedSpecial37
  | 0x38#6 => .reservedSpecial38
  | 0x39#6 => .reservedSpecial39
  | 0x3A#6 => .reservedSpecial3a
  | 0x3B#6 => .reservedSpecial3b
  | 0x3C#6 => .reservedSpecial3c
  | 0x3D#6 => .reservedSpecial3d
  | 0x3E#6 => .reservedSpecial3e
  | _ => .reservedSpecial3f

/-- The REGIMM map (R112): rt = 31, a BGEZ alias, is the last row. -/
def decodeRegimm (w : Word) : Instr :=
  match rtField w with
  | 0x00#5 => .bltz (rsField w) (immField w)
  | 0x01#5 => .bgez (rsField w) (immField w)
  | 0x02#5 => .bltzAliasRt2 (rsField w) (immField w)
  | 0x03#5 => .bgezAliasRt3 (rsField w) (immField w)
  | 0x04#5 => .bltzAliasRt4 (rsField w) (immField w)
  | 0x05#5 => .bgezAliasRt5 (rsField w) (immField w)
  | 0x06#5 => .bltzAliasRt6 (rsField w) (immField w)
  | 0x07#5 => .bgezAliasRt7 (rsField w) (immField w)
  | 0x08#5 => .bltzAliasRt8 (rsField w) (immField w)
  | 0x09#5 => .bgezAliasRt9 (rsField w) (immField w)
  | 0x0A#5 => .bltzAliasRt10 (rsField w) (immField w)
  | 0x0B#5 => .bgezAliasRt11 (rsField w) (immField w)
  | 0x0C#5 => .bltzAliasRt12 (rsField w) (immField w)
  | 0x0D#5 => .bgezAliasRt13 (rsField w) (immField w)
  | 0x0E#5 => .bltzAliasRt14 (rsField w) (immField w)
  | 0x0F#5 => .bgezAliasRt15 (rsField w) (immField w)
  | 0x10#5 => .bltzal (rsField w) (immField w)
  | 0x11#5 => .bgezal (rsField w) (immField w)
  | 0x12#5 => .bltzAliasRt18 (rsField w) (immField w)
  | 0x13#5 => .bgezAliasRt19 (rsField w) (immField w)
  | 0x14#5 => .bltzAliasRt20 (rsField w) (immField w)
  | 0x15#5 => .bgezAliasRt21 (rsField w) (immField w)
  | 0x16#5 => .bltzAliasRt22 (rsField w) (immField w)
  | 0x17#5 => .bgezAliasRt23 (rsField w) (immField w)
  | 0x18#5 => .bltzAliasRt24 (rsField w) (immField w)
  | 0x19#5 => .bgezAliasRt25 (rsField w) (immField w)
  | 0x1A#5 => .bltzAliasRt26 (rsField w) (immField w)
  | 0x1B#5 => .bgezAliasRt27 (rsField w) (immField w)
  | 0x1C#5 => .bltzAliasRt28 (rsField w) (immField w)
  | 0x1D#5 => .bgezAliasRt29 (rsField w) (immField w)
  | 0x1E#5 => .bltzAliasRt30 (rsField w) (immField w)
  | _ => .bgezAliasRt31 (rsField w) (immField w)

/-- The function forms of COP0, rs[4] = 1 (R113, R296): funct 0x3F, a no-operation, is the last row. -/
def decodeCop0Function (w : Word) : Instr :=
  match functField w with
  | 0x00#6 => .cop0CoNop00
  | 0x01#6 => .tlbr
  | 0x02#6 => .tlbwi
  | 0x03#6 => .cop0CoNop03
  | 0x04#6 => .cop0CoNop04
  | 0x05#6 => .cop0CoNop05
  | 0x06#6 => .tlbwr
  | 0x07#6 => .cop0CoNop07
  | 0x08#6 => .tlbp
  | 0x09#6 => .cop0CoNop09
  | 0x0A#6 => .cop0CoNop0a
  | 0x0B#6 => .cop0CoNop0b
  | 0x0C#6 => .cop0CoNop0c
  | 0x0D#6 => .cop0CoNop0d
  | 0x0E#6 => .cop0CoNop0e
  | 0x0F#6 => .cop0CoNop0f
  | 0x10#6 => .rfe
  | 0x11#6 => .cop0CoNop11
  | 0x12#6 => .cop0CoNop12
  | 0x13#6 => .cop0CoNop13
  | 0x14#6 => .cop0CoNop14
  | 0x15#6 => .cop0CoNop15
  | 0x16#6 => .cop0CoNop16
  | 0x17#6 => .cop0CoNop17
  | 0x18#6 => .cop0CoNop18
  | 0x19#6 => .cop0CoNop19
  | 0x1A#6 => .cop0CoNop1a
  | 0x1B#6 => .cop0CoNop1b
  | 0x1C#6 => .cop0CoNop1c
  | 0x1D#6 => .cop0CoNop1d
  | 0x1E#6 => .cop0CoNop1e
  | 0x1F#6 => .cop0CoNop1f
  | 0x20#6 => .cop0CoNop20
  | 0x21#6 => .cop0CoNop21
  | 0x22#6 => .cop0CoNop22
  | 0x23#6 => .cop0CoNop23
  | 0x24#6 => .cop0CoNop24
  | 0x25#6 => .cop0CoNop25
  | 0x26#6 => .cop0CoNop26
  | 0x27#6 => .cop0CoNop27
  | 0x28#6 => .cop0CoNop28
  | 0x29#6 => .cop0CoNop29
  | 0x2A#6 => .cop0CoNop2a
  | 0x2B#6 => .cop0CoNop2b
  | 0x2C#6 => .cop0CoNop2c
  | 0x2D#6 => .cop0CoNop2d
  | 0x2E#6 => .cop0CoNop2e
  | 0x2F#6 => .cop0CoNop2f
  | 0x30#6 => .cop0CoNop30
  | 0x31#6 => .cop0CoNop31
  | 0x32#6 => .cop0CoNop32
  | 0x33#6 => .cop0CoNop33
  | 0x34#6 => .cop0CoNop34
  | 0x35#6 => .cop0CoNop35
  | 0x36#6 => .cop0CoNop36
  | 0x37#6 => .cop0CoNop37
  | 0x38#6 => .cop0CoNop38
  | 0x39#6 => .cop0CoNop39
  | 0x3A#6 => .cop0CoNop3a
  | 0x3B#6 => .cop0CoNop3b
  | 0x3C#6 => .cop0CoNop3c
  | 0x3D#6 => .cop0CoNop3d
  | 0x3E#6 => .cop0CoNop3e
  | _ => .cop0CoNop3f

/-- The COP0 map (R113); every other rs has rs[4] = 1. -/
def decodeCop0 (w : Word) : Instr :=
  match rsField w with
  | 0x00#5 => .mfc0 (rtField w) (rdField w)
  | 0x01#5 => .cop0NopRs01
  | 0x02#5 => .cfc0 (rtField w) (rdField w)
  | 0x03#5 => .cop0NopRs03
  | 0x04#5 => .mtc0 (rtField w) (rdField w)
  | 0x05#5 => .cop0NopRs05
  | 0x06#5 => .ctc0 (rtField w) (rdField w)
  | 0x07#5 => .cop0NopRs07
  | 0x08#5 => if condField w then .bc0t (immField w) else .bc0f (immField w)
  | 0x09#5 => .cop0NopRs09
  | 0x0A#5 => .cop0NopRs10
  | 0x0B#5 => .cop0NopRs11
  | 0x0C#5 => .cop0NopRs12
  | 0x0D#5 => .cop0NopRs13
  | 0x0E#5 => .cop0NopRs14
  | 0x0F#5 => .cop0NopRs15
  | _ => decodeCop0Function w

/-- The COP2 map (R114); every other rs has rs[4] = 1 and is a GTE command. -/
def decodeCop2 (w : Word) : Instr :=
  match rsField w with
  | 0x00#5 => .mfc2 (rtField w) (rdField w)
  | 0x01#5 => .cop2NopRs01
  | 0x02#5 => .cfc2 (rtField w) (rdField w)
  | 0x03#5 => .cop2NopRs03
  | 0x04#5 => .mtc2 (rtField w) (rdField w)
  | 0x05#5 => .cop2NopRs05
  | 0x06#5 => .ctc2 (rtField w) (rdField w)
  | 0x07#5 => .cop2NopRs07
  | 0x08#5 => if condField w then .bc2t (immField w) else .bc2f (immField w)
  | 0x09#5 => .cop2NopRs09
  | 0x0A#5 => .cop2NopRs10
  | 0x0B#5 => .cop2NopRs11
  | 0x0C#5 => .cop2NopRs12
  | 0x0D#5 => .cop2NopRs13
  | 0x0E#5 => .cop2NopRs14
  | 0x0F#5 => .cop2NopRs15
  | _ => .cop2 (cofunField w)

/-- The instruction a word stands for: the primary opcode map (R109), total over 32-bit words (R118). Opcode 0x3F, reserved,
is the last row. -/
def decode (w : Word) : Instr :=
  match opField w with
  | 0x00#6 => decodeSpecial w
  | 0x01#6 => decodeRegimm w
  | 0x02#6 => .j (targetField w)
  | 0x03#6 => .jal (targetField w)
  | 0x04#6 => .beq (rsField w) (rtField w) (immField w)
  | 0x05#6 => .bne (rsField w) (rtField w) (immField w)
  | 0x06#6 => .blez (rsField w) (immField w)
  | 0x07#6 => .bgtz (rsField w) (immField w)
  | 0x08#6 => .addi (rtField w) (rsField w) (immField w)
  | 0x09#6 => .addiu (rtField w) (rsField w) (immField w)
  | 0x0A#6 => .slti (rtField w) (rsField w) (immField w)
  | 0x0B#6 => .sltiu (rtField w) (rsField w) (immField w)
  | 0x0C#6 => .andi (rtField w) (rsField w) (immField w)
  | 0x0D#6 => .ori (rtField w) (rsField w) (immField w)
  | 0x0E#6 => .xori (rtField w) (rsField w) (immField w)
  | 0x0F#6 => .lui (rtField w) (immField w)
  | 0x10#6 => decodeCop0 w
  | 0x11#6 => .cop1 (targetField w)
  | 0x12#6 => decodeCop2 w
  | 0x13#6 => .cop3 (targetField w)
  | 0x14#6 => .reservedOp14
  | 0x15#6 => .reservedOp15
  | 0x16#6 => .reservedOp16
  | 0x17#6 => .reservedOp17
  | 0x18#6 => .reservedOp18
  | 0x19#6 => .reservedOp19
  | 0x1A#6 => .reservedOp1a
  | 0x1B#6 => .reservedOp1b
  | 0x1C#6 => .reservedOp1c
  | 0x1D#6 => .reservedOp1d
  | 0x1E#6 => .reservedOp1e
  | 0x1F#6 => .reservedOp1f
  | 0x20#6 => .lb (rtField w) (rsField w) (immField w)
  | 0x21#6 => .lh (rtField w) (rsField w) (immField w)
  | 0x22#6 => .lwl (rtField w) (rsField w) (immField w)
  | 0x23#6 => .lw (rtField w) (rsField w) (immField w)
  | 0x24#6 => .lbu (rtField w) (rsField w) (immField w)
  | 0x25#6 => .lhu (rtField w) (rsField w) (immField w)
  | 0x26#6 => .lwr (rtField w) (rsField w) (immField w)
  | 0x27#6 => .reservedOp27
  | 0x28#6 => .sb (rtField w) (rsField w) (immField w)
  | 0x29#6 => .sh (rtField w) (rsField w) (immField w)
  | 0x2A#6 => .swl (rtField w) (rsField w) (immField w)
  | 0x2B#6 => .sw (rtField w) (rsField w) (immField w)
  | 0x2C#6 => .reservedOp2c
  | 0x2D#6 => .reservedOp2d
  | 0x2E#6 => .swr (rtField w) (rsField w) (immField w)
  | 0x2F#6 => .reservedOp2f
  | 0x30#6 => .lwc0 (rtField w) (rsField w) (immField w)
  | 0x31#6 => .lwc1 (rtField w) (rsField w) (immField w)
  | 0x32#6 => .lwc2 (rtField w) (rsField w) (immField w)
  | 0x33#6 => .lwc3 (rtField w) (rsField w) (immField w)
  | 0x34#6 => .reservedOp34
  | 0x35#6 => .reservedOp35
  | 0x36#6 => .reservedOp36
  | 0x37#6 => .reservedOp37
  | 0x38#6 => .swc0 (rtField w) (rsField w) (immField w)
  | 0x39#6 => .swc1 (rtField w) (rsField w) (immField w)
  | 0x3A#6 => .swc2 (rtField w) (rsField w) (immField w)
  | 0x3B#6 => .swc3 (rtField w) (rsField w) (immField w)
  | 0x3C#6 => .reservedOp3c
  | 0x3D#6 => .reservedOp3d
  | 0x3E#6 => .reservedOp3e
  | _ => .reservedOp3f

/-- Why a byte list holds no instruction word: it has fewer than four bytes. A fetch always answers a whole word. -/
inductive DecodeError
  | truncated (have_bytes : Nat)
  deriving DecidableEq, Repr

/-- Four bytes in memory order, the first at the lowest address, as a little-endian word (R69, R100). -/
def wordOfBytes (b0 b1 b2 b3 : Byte) : Word := b3 ++ b2 ++ b1 ++ b0

/-- The first instruction of a byte list and the bytes after it (R100), or the name of what is wrong. -/
def decodeBytes : List Byte → Except DecodeError (Instr × List Byte)
  | b0 :: b1 :: b2 :: b3 :: rest => .ok (decode (wordOfBytes b0 b1 b2 b3), rest)
  | short => .error (.truncated short.length)

/-- The four bytes of a word in memory order (R69). -/
def bytesOfWord (w : Word) : List Byte :=
  [w.extractLsb' 0 8, w.extractLsb' 8 8, w.extractLsb' 16 8, w.extractLsb' 24 8]

/-- The instruction word whose low `nbits` bits are `w` and whose other bits are 0 (bit 0 is the least significant). -/
def tableWord (nbits w : Nat) : Word := BitVec.ofNat 32 (w % 2 ^ nbits)

/-- The instruction the decoder reads from the bytes of a row of spec/opcode_table.json (bits numbered as there). -/
def decodeTableWord (nbits w : Nat) : Option Instr :=
  match decodeBytes (bytesOfWord (tableWord nbits w)) with
  | .ok (i, _) => some i
  | .error _ => none

/-! ## Encode -/

/-- A field with its least significant bit at bit `lo` of the word. -/
def place {n : Nat} (f : BitVec n) (lo : Nat) : Word := f.setWidth 32 <<< lo

/-- R format (R101). -/
def rWord (op : Opcode) (rs rt rd : RegNum) (sa : BitVec 5) (funct : BitVec 6) : Word :=
  place op 26 ||| place rs 21 ||| place rt 16 ||| place rd 11 ||| place sa 6 ||| place funct 0

/-- I format (R102), REGIMM (R103), the coprocessor branches (R105), loads and stores (R106). -/
def iWord (op : Opcode) (rs rt : RegNum) (imm : BitVec 16) : Word :=
  place op 26 ||| place rs 21 ||| place rt 16 ||| place imm 0

/-- J format (R104), and the words whose low 26 bits are one field. -/
def jWord (op : Opcode) (target : BitVec 26) : Word := place op 26 ||| place target 0

/-- SYSCALL and BREAK: a 20-bit code field above funct (R107). -/
def codeWord (code : BitVec 20) (funct : BitVec 6) : Word := place Op.special 26 ||| place code 6 ||| place funct 0

/-- A coprocessor function word: bit 25 set and cofun below it (R105). -/
def cofunWord (op : Opcode) (cofun : BitVec 25) : Word := place op 26 ||| place 1#1 25 ||| place cofun 0

/-- The word of an instruction, its ignored fields zero (R116). -/
def encode (i : Instr) : Word :=
  match i with
  | .sll rd rt sa => rWord Op.special 0 rt rd sa 0x00#6
  | .srl rd rt sa => rWord Op.special 0 rt rd sa 0x02#6
  | .sra rd rt sa => rWord Op.special 0 rt rd sa 0x03#6
  | .sllv rd rt rs => rWord Op.special rs rt rd 0 0x04#6
  | .srlv rd rt rs => rWord Op.special rs rt rd 0 0x06#6
  | .srav rd rt rs => rWord Op.special rs rt rd 0 0x07#6
  | .jr rs => rWord Op.special rs 0 0 0 0x08#6
  | .jalr rd rs => rWord Op.special rs 0 rd 0 0x09#6
  | .syscall code => codeWord code 0x0C#6
  | .brk code => codeWord code 0x0D#6
  | .mfhi rd => rWord Op.special 0 0 rd 0 0x10#6
  | .mthi rs => rWord Op.special rs 0 0 0 0x11#6
  | .mflo rd => rWord Op.special 0 0 rd 0 0x12#6
  | .mtlo rs => rWord Op.special rs 0 0 0 0x13#6
  | .mult rs rt => rWord Op.special rs rt 0 0 0x18#6
  | .multu rs rt => rWord Op.special rs rt 0 0 0x19#6
  | .div rs rt => rWord Op.special rs rt 0 0 0x1A#6
  | .divu rs rt => rWord Op.special rs rt 0 0 0x1B#6
  | .add rd rs rt => rWord Op.special rs rt rd 0 0x20#6
  | .addu rd rs rt => rWord Op.special rs rt rd 0 0x21#6
  | .sub rd rs rt => rWord Op.special rs rt rd 0 0x22#6
  | .subu rd rs rt => rWord Op.special rs rt rd 0 0x23#6
  | .and rd rs rt => rWord Op.special rs rt rd 0 0x24#6
  | .or rd rs rt => rWord Op.special rs rt rd 0 0x25#6
  | .xor rd rs rt => rWord Op.special rs rt rd 0 0x26#6
  | .nor rd rs rt => rWord Op.special rs rt rd 0 0x27#6
  | .slt rd rs rt => rWord Op.special rs rt rd 0 0x2A#6
  | .sltu rd rs rt => rWord Op.special rs rt rd 0 0x2B#6
  | .bltz rs imm => iWord Op.regimm rs 0x00#5 imm
  | .bgez rs imm => iWord Op.regimm rs 0x01#5 imm
  | .bltzAliasRt2 rs imm => iWord Op.regimm rs 0x02#5 imm
  | .bgezAliasRt3 rs imm => iWord Op.regimm rs 0x03#5 imm
  | .bltzAliasRt4 rs imm => iWord Op.regimm rs 0x04#5 imm
  | .bgezAliasRt5 rs imm => iWord Op.regimm rs 0x05#5 imm
  | .bltzAliasRt6 rs imm => iWord Op.regimm rs 0x06#5 imm
  | .bgezAliasRt7 rs imm => iWord Op.regimm rs 0x07#5 imm
  | .bltzAliasRt8 rs imm => iWord Op.regimm rs 0x08#5 imm
  | .bgezAliasRt9 rs imm => iWord Op.regimm rs 0x09#5 imm
  | .bltzAliasRt10 rs imm => iWord Op.regimm rs 0x0A#5 imm
  | .bgezAliasRt11 rs imm => iWord Op.regimm rs 0x0B#5 imm
  | .bltzAliasRt12 rs imm => iWord Op.regimm rs 0x0C#5 imm
  | .bgezAliasRt13 rs imm => iWord Op.regimm rs 0x0D#5 imm
  | .bltzAliasRt14 rs imm => iWord Op.regimm rs 0x0E#5 imm
  | .bgezAliasRt15 rs imm => iWord Op.regimm rs 0x0F#5 imm
  | .bltzal rs imm => iWord Op.regimm rs 0x10#5 imm
  | .bgezal rs imm => iWord Op.regimm rs 0x11#5 imm
  | .bltzAliasRt18 rs imm => iWord Op.regimm rs 0x12#5 imm
  | .bgezAliasRt19 rs imm => iWord Op.regimm rs 0x13#5 imm
  | .bltzAliasRt20 rs imm => iWord Op.regimm rs 0x14#5 imm
  | .bgezAliasRt21 rs imm => iWord Op.regimm rs 0x15#5 imm
  | .bltzAliasRt22 rs imm => iWord Op.regimm rs 0x16#5 imm
  | .bgezAliasRt23 rs imm => iWord Op.regimm rs 0x17#5 imm
  | .bltzAliasRt24 rs imm => iWord Op.regimm rs 0x18#5 imm
  | .bgezAliasRt25 rs imm => iWord Op.regimm rs 0x19#5 imm
  | .bltzAliasRt26 rs imm => iWord Op.regimm rs 0x1A#5 imm
  | .bgezAliasRt27 rs imm => iWord Op.regimm rs 0x1B#5 imm
  | .bltzAliasRt28 rs imm => iWord Op.regimm rs 0x1C#5 imm
  | .bgezAliasRt29 rs imm => iWord Op.regimm rs 0x1D#5 imm
  | .bltzAliasRt30 rs imm => iWord Op.regimm rs 0x1E#5 imm
  | .bgezAliasRt31 rs imm => iWord Op.regimm rs 0x1F#5 imm
  | .j target => jWord Op.j target
  | .jal target => jWord Op.jal target
  | .beq rs rt imm => iWord Op.beq rs rt imm
  | .bne rs rt imm => iWord Op.bne rs rt imm
  | .blez rs imm => iWord Op.blez rs 0 imm
  | .bgtz rs imm => iWord Op.bgtz rs 0 imm
  | .addi rt rs imm => iWord Op.addi rs rt imm
  | .addiu rt rs imm => iWord Op.addiu rs rt imm
  | .slti rt rs imm => iWord Op.slti rs rt imm
  | .sltiu rt rs imm => iWord Op.sltiu rs rt imm
  | .andi rt rs imm => iWord Op.andi rs rt imm
  | .ori rt rs imm => iWord Op.ori rs rt imm
  | .xori rt rs imm => iWord Op.xori rs rt imm
  | .lui rt imm => iWord Op.lui 0 rt imm
  | .cop1 cofun => jWord Op.cop1 cofun
  | .cop3 cofun => jWord Op.cop3 cofun
  | .lb rt rs imm => iWord Op.lb rs rt imm
  | .lh rt rs imm => iWord Op.lh rs rt imm
  | .lwl rt rs imm => iWord Op.lwl rs rt imm
  | .lw rt rs imm => iWord Op.lw rs rt imm
  | .lbu rt rs imm => iWord Op.lbu rs rt imm
  | .lhu rt rs imm => iWord Op.lhu rs rt imm
  | .lwr rt rs imm => iWord Op.lwr rs rt imm
  | .sb rt rs imm => iWord Op.sb rs rt imm
  | .sh rt rs imm => iWord Op.sh rs rt imm
  | .swl rt rs imm => iWord Op.swl rs rt imm
  | .sw rt rs imm => iWord Op.sw rs rt imm
  | .swr rt rs imm => iWord Op.swr rs rt imm
  | .lwc0 rt rs imm => iWord Op.lwc0 rs rt imm
  | .lwc1 rt rs imm => iWord Op.lwc1 rs rt imm
  | .lwc2 rt rs imm => iWord Op.lwc2 rs rt imm
  | .lwc3 rt rs imm => iWord Op.lwc3 rs rt imm
  | .swc0 rt rs imm => iWord Op.swc0 rs rt imm
  | .swc1 rt rs imm => iWord Op.swc1 rs rt imm
  | .swc2 rt rs imm => iWord Op.swc2 rs rt imm
  | .swc3 rt rs imm => iWord Op.swc3 rs rt imm
  | .mfc0 rt rd => rWord Op.cop0 0x00#5 rt rd 0 0
  | .cfc0 rt rd => rWord Op.cop0 0x02#5 rt rd 0 0
  | .mtc0 rt rd => rWord Op.cop0 0x04#5 rt rd 0 0
  | .ctc0 rt rd => rWord Op.cop0 0x06#5 rt rd 0 0
  | .bc0f imm => iWord Op.cop0 0x08#5 0x00#5 imm
  | .bc0t imm => iWord Op.cop0 0x08#5 0x01#5 imm
  | .mfc2 rt rd => rWord Op.cop2 0x00#5 rt rd 0 0
  | .cfc2 rt rd => rWord Op.cop2 0x02#5 rt rd 0 0
  | .mtc2 rt rd => rWord Op.cop2 0x04#5 rt rd 0 0
  | .ctc2 rt rd => rWord Op.cop2 0x06#5 rt rd 0 0
  | .bc2f imm => iWord Op.cop2 0x08#5 0x00#5 imm
  | .bc2t imm => iWord Op.cop2 0x08#5 0x01#5 imm
  | .cop2 cofun => cofunWord Op.cop2 cofun
  | .reservedSpecial01 => rWord Op.special 0 0 0 0 0x01#6
  | .reservedSpecial05 => rWord Op.special 0 0 0 0 0x05#6
  | .reservedSpecial0a => rWord Op.special 0 0 0 0 0x0A#6
  | .reservedSpecial0b => rWord Op.special 0 0 0 0 0x0B#6
  | .reservedSpecial0e => rWord Op.special 0 0 0 0 0x0E#6
  | .reservedSpecial0f => rWord Op.special 0 0 0 0 0x0F#6
  | .reservedSpecial14 => rWord Op.special 0 0 0 0 0x14#6
  | .reservedSpecial15 => rWord Op.special 0 0 0 0 0x15#6
  | .reservedSpecial16 => rWord Op.special 0 0 0 0 0x16#6
  | .reservedSpecial17 => rWord Op.special 0 0 0 0 0x17#6
  | .reservedSpecial1c => rWord Op.special 0 0 0 0 0x1C#6
  | .reservedSpecial1d => rWord Op.special 0 0 0 0 0x1D#6
  | .reservedSpecial1e => rWord Op.special 0 0 0 0 0x1E#6
  | .reservedSpecial1f => rWord Op.special 0 0 0 0 0x1F#6
  | .reservedSpecial28 => rWord Op.special 0 0 0 0 0x28#6
  | .reservedSpecial29 => rWord Op.special 0 0 0 0 0x29#6
  | .reservedSpecial2c => rWord Op.special 0 0 0 0 0x2C#6
  | .reservedSpecial2d => rWord Op.special 0 0 0 0 0x2D#6
  | .reservedSpecial2e => rWord Op.special 0 0 0 0 0x2E#6
  | .reservedSpecial2f => rWord Op.special 0 0 0 0 0x2F#6
  | .reservedSpecial30 => rWord Op.special 0 0 0 0 0x30#6
  | .reservedSpecial31 => rWord Op.special 0 0 0 0 0x31#6
  | .reservedSpecial32 => rWord Op.special 0 0 0 0 0x32#6
  | .reservedSpecial33 => rWord Op.special 0 0 0 0 0x33#6
  | .reservedSpecial34 => rWord Op.special 0 0 0 0 0x34#6
  | .reservedSpecial35 => rWord Op.special 0 0 0 0 0x35#6
  | .reservedSpecial36 => rWord Op.special 0 0 0 0 0x36#6
  | .reservedSpecial37 => rWord Op.special 0 0 0 0 0x37#6
  | .reservedSpecial38 => rWord Op.special 0 0 0 0 0x38#6
  | .reservedSpecial39 => rWord Op.special 0 0 0 0 0x39#6
  | .reservedSpecial3a => rWord Op.special 0 0 0 0 0x3A#6
  | .reservedSpecial3b => rWord Op.special 0 0 0 0 0x3B#6
  | .reservedSpecial3c => rWord Op.special 0 0 0 0 0x3C#6
  | .reservedSpecial3d => rWord Op.special 0 0 0 0 0x3D#6
  | .reservedSpecial3e => rWord Op.special 0 0 0 0 0x3E#6
  | .reservedSpecial3f => rWord Op.special 0 0 0 0 0x3F#6
  | .reservedOp14 => jWord 0x14#6 0
  | .reservedOp15 => jWord 0x15#6 0
  | .reservedOp16 => jWord 0x16#6 0
  | .reservedOp17 => jWord 0x17#6 0
  | .reservedOp18 => jWord 0x18#6 0
  | .reservedOp19 => jWord 0x19#6 0
  | .reservedOp1a => jWord 0x1A#6 0
  | .reservedOp1b => jWord 0x1B#6 0
  | .reservedOp1c => jWord 0x1C#6 0
  | .reservedOp1d => jWord 0x1D#6 0
  | .reservedOp1e => jWord 0x1E#6 0
  | .reservedOp1f => jWord 0x1F#6 0
  | .reservedOp27 => jWord 0x27#6 0
  | .reservedOp2c => jWord 0x2C#6 0
  | .reservedOp2d => jWord 0x2D#6 0
  | .reservedOp2f => jWord 0x2F#6 0
  | .reservedOp34 => jWord 0x34#6 0
  | .reservedOp35 => jWord 0x35#6 0
  | .reservedOp36 => jWord 0x36#6 0
  | .reservedOp37 => jWord 0x37#6 0
  | .reservedOp3c => jWord 0x3C#6 0
  | .reservedOp3d => jWord 0x3D#6 0
  | .reservedOp3e => jWord 0x3E#6 0
  | .reservedOp3f => jWord 0x3F#6 0
  | .cop0NopRs01 => rWord Op.cop0 0x01#5 0 0 0 0
  | .cop0NopRs03 => rWord Op.cop0 0x03#5 0 0 0 0
  | .cop0NopRs05 => rWord Op.cop0 0x05#5 0 0 0 0
  | .cop0NopRs07 => rWord Op.cop0 0x07#5 0 0 0 0
  | .cop0NopRs09 => rWord Op.cop0 0x09#5 0 0 0 0
  | .cop0NopRs10 => rWord Op.cop0 0x0A#5 0 0 0 0
  | .cop0NopRs11 => rWord Op.cop0 0x0B#5 0 0 0 0
  | .cop0NopRs12 => rWord Op.cop0 0x0C#5 0 0 0 0
  | .cop0NopRs13 => rWord Op.cop0 0x0D#5 0 0 0 0
  | .cop0NopRs14 => rWord Op.cop0 0x0E#5 0 0 0 0
  | .cop0NopRs15 => rWord Op.cop0 0x0F#5 0 0 0 0
  | .cop0CoNop00 => rWord Op.cop0 0x10#5 0 0 0 0x00#6
  | .tlbr => rWord Op.cop0 0x10#5 0 0 0 0x01#6
  | .tlbwi => rWord Op.cop0 0x10#5 0 0 0 0x02#6
  | .cop0CoNop03 => rWord Op.cop0 0x10#5 0 0 0 0x03#6
  | .cop0CoNop04 => rWord Op.cop0 0x10#5 0 0 0 0x04#6
  | .cop0CoNop05 => rWord Op.cop0 0x10#5 0 0 0 0x05#6
  | .tlbwr => rWord Op.cop0 0x10#5 0 0 0 0x06#6
  | .cop0CoNop07 => rWord Op.cop0 0x10#5 0 0 0 0x07#6
  | .tlbp => rWord Op.cop0 0x10#5 0 0 0 0x08#6
  | .cop0CoNop09 => rWord Op.cop0 0x10#5 0 0 0 0x09#6
  | .cop0CoNop0a => rWord Op.cop0 0x10#5 0 0 0 0x0A#6
  | .cop0CoNop0b => rWord Op.cop0 0x10#5 0 0 0 0x0B#6
  | .cop0CoNop0c => rWord Op.cop0 0x10#5 0 0 0 0x0C#6
  | .cop0CoNop0d => rWord Op.cop0 0x10#5 0 0 0 0x0D#6
  | .cop0CoNop0e => rWord Op.cop0 0x10#5 0 0 0 0x0E#6
  | .cop0CoNop0f => rWord Op.cop0 0x10#5 0 0 0 0x0F#6
  | .rfe => rWord Op.cop0 0x10#5 0 0 0 0x10#6
  | .cop0CoNop11 => rWord Op.cop0 0x10#5 0 0 0 0x11#6
  | .cop0CoNop12 => rWord Op.cop0 0x10#5 0 0 0 0x12#6
  | .cop0CoNop13 => rWord Op.cop0 0x10#5 0 0 0 0x13#6
  | .cop0CoNop14 => rWord Op.cop0 0x10#5 0 0 0 0x14#6
  | .cop0CoNop15 => rWord Op.cop0 0x10#5 0 0 0 0x15#6
  | .cop0CoNop16 => rWord Op.cop0 0x10#5 0 0 0 0x16#6
  | .cop0CoNop17 => rWord Op.cop0 0x10#5 0 0 0 0x17#6
  | .cop0CoNop18 => rWord Op.cop0 0x10#5 0 0 0 0x18#6
  | .cop0CoNop19 => rWord Op.cop0 0x10#5 0 0 0 0x19#6
  | .cop0CoNop1a => rWord Op.cop0 0x10#5 0 0 0 0x1A#6
  | .cop0CoNop1b => rWord Op.cop0 0x10#5 0 0 0 0x1B#6
  | .cop0CoNop1c => rWord Op.cop0 0x10#5 0 0 0 0x1C#6
  | .cop0CoNop1d => rWord Op.cop0 0x10#5 0 0 0 0x1D#6
  | .cop0CoNop1e => rWord Op.cop0 0x10#5 0 0 0 0x1E#6
  | .cop0CoNop1f => rWord Op.cop0 0x10#5 0 0 0 0x1F#6
  | .cop0CoNop20 => rWord Op.cop0 0x10#5 0 0 0 0x20#6
  | .cop0CoNop21 => rWord Op.cop0 0x10#5 0 0 0 0x21#6
  | .cop0CoNop22 => rWord Op.cop0 0x10#5 0 0 0 0x22#6
  | .cop0CoNop23 => rWord Op.cop0 0x10#5 0 0 0 0x23#6
  | .cop0CoNop24 => rWord Op.cop0 0x10#5 0 0 0 0x24#6
  | .cop0CoNop25 => rWord Op.cop0 0x10#5 0 0 0 0x25#6
  | .cop0CoNop26 => rWord Op.cop0 0x10#5 0 0 0 0x26#6
  | .cop0CoNop27 => rWord Op.cop0 0x10#5 0 0 0 0x27#6
  | .cop0CoNop28 => rWord Op.cop0 0x10#5 0 0 0 0x28#6
  | .cop0CoNop29 => rWord Op.cop0 0x10#5 0 0 0 0x29#6
  | .cop0CoNop2a => rWord Op.cop0 0x10#5 0 0 0 0x2A#6
  | .cop0CoNop2b => rWord Op.cop0 0x10#5 0 0 0 0x2B#6
  | .cop0CoNop2c => rWord Op.cop0 0x10#5 0 0 0 0x2C#6
  | .cop0CoNop2d => rWord Op.cop0 0x10#5 0 0 0 0x2D#6
  | .cop0CoNop2e => rWord Op.cop0 0x10#5 0 0 0 0x2E#6
  | .cop0CoNop2f => rWord Op.cop0 0x10#5 0 0 0 0x2F#6
  | .cop0CoNop30 => rWord Op.cop0 0x10#5 0 0 0 0x30#6
  | .cop0CoNop31 => rWord Op.cop0 0x10#5 0 0 0 0x31#6
  | .cop0CoNop32 => rWord Op.cop0 0x10#5 0 0 0 0x32#6
  | .cop0CoNop33 => rWord Op.cop0 0x10#5 0 0 0 0x33#6
  | .cop0CoNop34 => rWord Op.cop0 0x10#5 0 0 0 0x34#6
  | .cop0CoNop35 => rWord Op.cop0 0x10#5 0 0 0 0x35#6
  | .cop0CoNop36 => rWord Op.cop0 0x10#5 0 0 0 0x36#6
  | .cop0CoNop37 => rWord Op.cop0 0x10#5 0 0 0 0x37#6
  | .cop0CoNop38 => rWord Op.cop0 0x10#5 0 0 0 0x38#6
  | .cop0CoNop39 => rWord Op.cop0 0x10#5 0 0 0 0x39#6
  | .cop0CoNop3a => rWord Op.cop0 0x10#5 0 0 0 0x3A#6
  | .cop0CoNop3b => rWord Op.cop0 0x10#5 0 0 0 0x3B#6
  | .cop0CoNop3c => rWord Op.cop0 0x10#5 0 0 0 0x3C#6
  | .cop0CoNop3d => rWord Op.cop0 0x10#5 0 0 0 0x3D#6
  | .cop0CoNop3e => rWord Op.cop0 0x10#5 0 0 0 0x3E#6
  | .cop0CoNop3f => rWord Op.cop0 0x10#5 0 0 0 0x3F#6
  | .cop2NopRs01 => rWord Op.cop2 0x01#5 0 0 0 0
  | .cop2NopRs03 => rWord Op.cop2 0x03#5 0 0 0 0
  | .cop2NopRs05 => rWord Op.cop2 0x05#5 0 0 0 0
  | .cop2NopRs07 => rWord Op.cop2 0x07#5 0 0 0 0
  | .cop2NopRs09 => rWord Op.cop2 0x09#5 0 0 0 0
  | .cop2NopRs10 => rWord Op.cop2 0x0A#5 0 0 0 0
  | .cop2NopRs11 => rWord Op.cop2 0x0B#5 0 0 0 0
  | .cop2NopRs12 => rWord Op.cop2 0x0C#5 0 0 0 0
  | .cop2NopRs13 => rWord Op.cop2 0x0D#5 0 0 0 0
  | .cop2NopRs14 => rWord Op.cop2 0x0E#5 0 0 0 0
  | .cop2NopRs15 => rWord Op.cop2 0x0F#5 0 0 0 0

/-- The bytes of an instruction in memory order (R69, R100). -/
def encodeBytes (i : Instr) : List Byte := bytesOfWord (encode i)

end Sys2Proof
end

