-- ==== Sys2Proof/Machine/Table.lean ====
section
/-!
DEFINITION. Sparse tables in one canonical form: memory, the scratchpad and the instruction cache are such tables, so that
equal contents are equal data.
-/

namespace Sys2Proof.Machine

/-- What key `k` holds; an unlisted key holds `d`. -/
def tableRead {α : Type} (d : α) : Table α → Nat → α
  | [], _ => d
  | (k', v) :: t, k => if k' = k then v else tableRead d t k

/-- The table with `k` listed as holding `v`, at its place in the order. -/
def tableInsert {α : Type} : Table α → Nat → α → Table α
  | [], k, v => [(k, v)]
  | (k', v') :: t, k, v =>
    if k < k' then (k, v) :: (k', v') :: t
    else if k = k' then (k, v) :: t
    else (k', v') :: tableInsert t k v

/-- The table after key `k` is made to hold `v`: the value an unlisted key holds is never listed. -/
def tableWrite {α : Type} [DecidableEq α] (d : α) (l : Table α) (k : Nat) (v : α) : Table α :=
  if v = d then l.filter (fun e => e.1 != k) else tableInsert l k v

/-- The canonical form: keys strictly rising and below `bound`, no entry equal to what an unlisted key holds. -/
abbrev tableWf {α : Type} (d : α) (bound : Nat) (l : Table α) : Prop :=
  l.Pairwise (fun a b => a.1 < b.1) ∧ ∀ e ∈ l, e.1 < bound ∧ e.2 ≠ d

/-! ## Bytes -/

/-- One byte of a memory. -/
def Memory.read (m : Memory) (a : Nat) : Byte := tableRead 0 m a

/-- A memory with one byte written. -/
def Memory.write (m : Memory) (a : Nat) (b : Byte) : Memory := tableWrite 0 m a b

/-- The canonical form of the external memory: physical addresses are 32 bits wide (R60, R62). -/
abbrev Memory.wf (m : Memory) : Prop := tableWf 0 (2 ^ 32) m

/-- The canonical form of the scratchpad: offsets 0..1023 (R44). -/
abbrev Memory.scratchWf (m : Memory) : Prop := tableWf 0 1024 m

/-- `n` bytes from `p` upward as a little-endian value, zero-extended (R66, R69); addresses wrap at the key's width (I31). -/
def Memory.readLE {w : Nat} (m : Memory) (p : BitVec w) : Nat → Word
  | 0 => 0
  | n + 1 => (m.read p.toNat).setWidth 32 ||| (m.readLE (p + 1) n <<< 8)

/-- The low `n` bytes of `v` written from `p` upward, the least significant first (R66, R69). -/
def Memory.writeLE {w : Nat} (m : Memory) (p : BitVec w) : Nat → Word → Memory
  | 0, _ => m
  | n + 1, v => (m.write p.toNat (v.setWidth 8)).writeLE (p + 1) n (v >>> 8)

/-! ## The instruction cache -/

/-- Entry `ic[i]` (R42). -/
def ICache.read (c : ICache) (i : BitVec 10) : IcEntry := tableRead c.other c.listed i.toNat

/-- The cache with entry `i` replaced. -/
def ICache.write (c : ICache) (i : BitVec 10) (e : IcEntry) : ICache :=
  { c with listed := tableWrite c.other c.listed i.toNat e }

/-- The cache with every entry's TV word changed by `f`. -/
def ICache.mapTv (c : ICache) (f : Word → Word) : ICache :=
  let other : IcEntry := { c.other with tv := f c.other.tv }
  { listed := (c.listed.map (fun e => (e.1, { e.2 with tv := f e.2.tv }))).filter (fun e => e.2 != other), other := other }

/-- The canonical form of the cache. -/
abbrev ICache.wf (c : ICache) : Prop := tableWf c.other 1024 c.listed

end Sys2Proof.Machine
end

