-- ==== Sys2Proof/Machine/Ops.lean ====
section
/-!
DEFINITION. The named operations every meaning is built from: registers, the pending load, the pc pair, the status bits,
taking an exception and returning from one, data memory (spec/10_state.md, 20_memory.md, 40_pipeline.md, 60_exceptions.md).
-/

namespace Sys2Proof.Machine

/-- The outcome of a step of this machine. -/
abbrev Out := Host.Outcome State Fault Refusal

/-! ## General registers -/

/-- `x[r]`: r0 reads as zero whatever its slot holds (R21, R134). -/
def State.reg (s : State) (r : RegNum) : Word := if r = 0 then 0 else s.regs[r.toNat]'r.isLt

/-- The register file after a write to register `r`: a write to r0 is discarded (R21). -/
def writeRegs (regs : Vector Word 32) (r : RegNum) (v : Word) : Vector Word 32 :=
  if r = 0 then regs else regs.set r.toNat v r.isLt

/-- `x[r] <- v` (R12). -/
def State.setReg (s : State) (r : RegNum) (v : Word) : State := { s with regs := writeRegs s.regs r v }

/-- Step 1: zero into r0 (R131). -/
def State.zeroR0 (s : State) : State := { s with regs := s.regs.set 0 0 }

/-! ## The pending load -/

/-- The register file after phase 6c: the pending load committed (R136). -/
def committedRegs (s : State) : Vector Word 32 :=
  match s.ld with
  | none => s.regs
  | some l => writeRegs s.regs l.reg l.val

/-- The register file after phase 6c of an instruction load-delayed into `r`: a pending load of the same register is discarded,
any other commits (R138). -/
def committedRegsUnlessTo (s : State) (r : RegNum) : Vector Word 32 :=
  match s.ld with
  | none => s.regs
  | some l => if l.reg = r then s.regs else writeRegs s.regs l.reg l.val

/-- Phase 6c: commit the pending load, after which there is none (R136). -/
def State.commitLoad (s : State) : State := { s with regs := committedRegs s, ld := none }

/-- `LoadDelayed(r, v)`: what was pending commits or is cancelled, and `(r, v)` becomes pending (R135, R138). -/
def State.loadDelayed (s : State) (r : RegNum) (v : Word) : State :=
  { s with regs := committedRegsUnlessTo s r, ld := some ⟨r, v⟩ }

/-- `PendingOr(r)`: the value of the pending load if it is for `r`, else `x[r]` (R137). -/
def State.pendingOr (s : State) (r : RegNum) : Word :=
  match s.ld with
  | none => s.reg r
  | some l => if l.reg = r then l.val else s.reg r

/-! ## The pc pair (R143) -/

/-- Step 7 for an instruction that is no branch. -/
def State.advance (s : State) : State := { s with pc := s.npc, npc := s.npc + 4, bd := false, bt := false }

/-- Step 7 for a branch or jump, `delay_branch(cond, target)` (R230). -/
def State.delayBranch (s : State) (cond : Bool) (target : Word) : State :=
  { s with pc := s.npc, npc := if cond then target else s.npc + 4, bd := true, bt := cond }

/-! ## Status bits (R29, R40) -/

/-- SR.IEc -/
def State.iec (s : State) : Bool := s.sr.getLsbD 0
/-- SR.KUc: user mode when set (R390) -/
def State.kuc (s : State) : Bool := s.sr.getLsbD 1
/-- SR.IsC -/
def State.isc (s : State) : Bool := s.sr.getLsbD 16
/-- SR.BEV -/
def State.bev (s : State) : Bool := s.sr.getLsbD 22
/-- SR.CU0 to SR.CU3 -/
def State.cu (s : State) (z : BitVec 2) : Bool := s.sr.getLsbD (28 + z.toNat)
/-- SR.IM -/
def State.im (s : State) : BitVec 8 := s.sr.extractLsb' 8 8
/-- Cause.IP, bits 15:8 -/
def State.ip (s : State) : BitVec 8 := s.cause.extractLsb' 8 8
/-- BIU.LOCK -/
def State.biuLock (s : State) : Bool := s.biu.getLsbD 0
/-- BIU.TAG -/
def State.biuTag (s : State) : Bool := s.biu.getLsbD 2
/-- BIU.DS -/
def State.biuDs (s : State) : Bool := s.biu.getLsbD 7
/-- BIU.IS1 -/
def State.biuIs1 (s : State) : Bool := s.biu.getLsbD 11

/-- The "interrupt pending now" flag: derived state, always the formula over SR and Cause (R45). -/
def State.intPending (s : State) : Bool := s.iec && (s.im &&& s.ip) != 0

/-- Whether coprocessor `z` is usable: coprocessor 0 in kernel mode or with CU0 (R293), the others by their CU bit alone
(R309, R320, R321). -/
def State.copUsable (s : State) (z : BitVec 2) : Bool := (z == 0 && !s.kuc) || s.cu z

/-! ## Exceptions -/

/-- The causes of a trap (R370); the address errors carry the offending address. Mod, TLBL, TLBS, IBE and DBE have codes and are
never raised (R63, R68). -/
inductive Exc
  | int
  | mod
  | tlbL
  | tlbS
  | adEL (badv : Word)
  | adES (badv : Word)
  | ibe
  | dbe
  | sys
  | bp
  | ri
  | cpU
  | ov
  deriving DecidableEq, Repr

/-- The code trap entry writes into Cause.ExcCode (R370). -/
def excCode (e : Exc) : BitVec 5 :=
  match e with
  | .int => 0
  | .mod => 1
  | .tlbL => 2
  | .tlbS => 3
  | .adEL _ => 4
  | .adES _ => 5
  | .ibe => 6
  | .dbe => 7
  | .sys => 8
  | .bp => 9
  | .ri => 10
  | .cpU => 11
  | .ov => 12

/-- BadVaddr after a trap: only an address error writes it (R378). -/
def excBadVaddr (e : Exc) (old : Word) : Word :=
  match e with
  | .adEL a => a
  | .adES a => a
  | _ => old

/-- A bit of a word that is set when `b` holds. -/
def bitIf (b : Bool) (i : Nat) : Word := if b then 1#32 <<< i else 0

/-- The handler's address (R382). -/
def vectorOf (s : State) : Word := if s.bev then 0xBFC00180 else 0x80000080

/-- Cause after trap entry: the pending bits kept, then ExcCode, BD, BT and CE (R379, R380). -/
def trapCause (e : Exc) (ce : BitVec 2) (s : State) : Word :=
  (s.cause &&& 0x0000FF00) ||| ((excCode e).setWidth 32 <<< 2) ||| bitIf s.bd 31 ||| bitIf s.bt 30 ||| (ce.setWidth 32 <<< 28)

/-- SR after trap entry: the 6-bit stack pushed (R381). -/
def pushStatus (sr : Word) : Word := (sr &&& ~~~0x0000003F#32) ||| ((sr <<< 2) &&& 0x0000003F)

/-- SR after a return from exception: the 6-bit stack popped, its old pair kept (R292). -/
def popStatus (sr : Word) : Word := (sr &&& ~~~0x0000000F#32) ||| ((sr >>> 2) &&& 0x0000000F)

/-- `TrapEntry(E, instr, badv)`, where `ce` is `instr[27:26]` (R376): the one way an exception is taken. -/
def State.trapEntry (s : State) (e : Exc) (ce : BitVec 2) : State :=
  { s.commitLoad with
    badVaddr := excBadVaddr e s.badVaddr
    epc := if s.bd then s.pc - 4 else s.pc
    tar := if s.bd then s.npc else s.tar
    cause := trapCause e ce s
    sr := pushStatus s.sr
    pc := vectorOf s
    npc := vectorOf s + 4
    bd := false
    bt := false }

/-- The return from an exception: RFE pops the stack and leaves the pc alone (R292). -/
def State.returnFromException (s : State) : State := { s with sr := popStatus s.sr }

/-! ## How an instruction ends -/

/-- `raise E`: the instruction with primary opcode `op` takes the exception instead of its results (R14, R139). -/
def raise (e : Exc) (op : Opcode) (s : State) : Out := .next (s.trapEntry e (op.extractLsb' 0 2))

/-- An instruction that completes: the pending load commits, `results` are written, the pc advances (R136, R140, R143). -/
def retire (results : State → State) (s : State) : Out := .next (results s.commitLoad).advance

/-- An instruction whose one result is a general register (R140). -/
def writeReg (r : RegNum) (v : Word) (s : State) : Out := retire (fun c => c.setReg r v) s

/-- An instruction whose result is the HI/LO pair (R25). -/
def writeHiLo (hi lo : Word) (s : State) : Out := retire (fun c => { c with hi := hi, lo := lo }) s

/-- An instruction with no effect but the commit of the pending load and the advance of the pc (R117, R296). -/
def noOperation (s : State) : Out := retire id s

/-- A load-delayed instruction that completes (R135, R138, R143). -/
def retireLoad (r : RegNum) (v : Word) (s : State) : Out := .next (s.loadDelayed r v).advance

/-- A branch or jump: refused in a delay slot, else the pending load commits, `results` (a link) are written, and control goes
to `target` after the delay slot if `cond` holds (R143, R230). -/
def branch (cond : Bool) (target : Word) (results : State → State) (s : State) : Out :=
  if s.bd then .refused .branchInDelaySlot else .next ((results s.commitLoad).delayBranch cond target)

/-- An instruction that needs coprocessor `z`: CpU when it is not usable, before every other check (R293, R309, R373). -/
def requireCop (z : BitVec 2) (op : Opcode) (s : State) (k : Out) : Out :=
  if s.copUsable z then k else raise .cpU op s

/-! ## Address mapping (R61 to R64) -/

/-- `phys(a)`: KSEG0 loses bit 31, KSEG1 bits 31:29, the others pass (R62). -/
def phys (a : Word) : Word :=
  match a.extractLsb' 29 3 with
  | 4#3 => a &&& 0x7FFFFFFF
  | 5#3 => a &&& 0x1FFFFFFF
  | _ => a

/-- The kernel-segment check: an address with bit 31 set in user mode (R64). -/
def State.ksegFault (s : State) (a : Word) : Bool := s.params.userKsegFault && s.kuc && a.getLsbD 31

/-! ## The external interface (R68) -/

/-- The low 8n bits of a value. -/
def lowBytes (n : Nat) (v : Word) : Word := (v.setWidth (8 * n)).setWidth 32

/-- Whether a region holds the `n` bytes from physical address `p`. -/
def covers (r : Region) (p : Word) (n : Nat) : Bool :=
  decide (r.base ≤ p.toNat) && decide (p.toNat + n ≤ r.base + r.size)

/-- The memory-like region of the platform that holds the `n` bytes from `p`, if there is one. -/
def State.regionOf (s : State) (p : Word) (n : Nat) : Option Region := s.params.regions.find? (fun r => covers r p n)

/-- `ExtRead(p, n)`: a recorded request; the answer is the bytes last stored in a memory-like region (R87), elsewhere the
oracle's draw (R68, R76). -/
def State.extRead (s : State) (p : Word) (n : Nat) : Word × State :=
  (match s.regionOf p n with
   | some _ => s.mem.readLE p n
   | none => lowBytes n (Config.extAnswer s.events s.draws p n),
   { s with events := .extRead p n :: s.events })

/-- `ExtWrite(p, n, v)`: a recorded event, which changes the contents of a RAM region (R68, R87). -/
def State.extWrite (s : State) (p : Word) (n : Nat) (v : Word) : State :=
  { s with
    events := .extWrite p n (lowBytes n v) :: s.events
    mem := match s.regionOf p n with
           | some ⟨_, _, .ram⟩ => s.mem.writeLE p n v
           | _ => s.mem }

/-! ## Scratchpad and BIU (R66, R67, R41) -/

/-- Whether a physical address is the scratchpad's, 0x1F800000..0x1F8003FF (R65). -/
def inScratch (p : Word) : Bool := (0x1F800000#32).ule p && p.ule 0x1F8003FF#32

/-- The scratchpad offset of an address: its low 10 bits, which is `p - 0x1F800000` in the range (R65) and `a & 0x3FF` (R74). -/
def scratchOffset (a : Word) : BitVec 10 := a.extractLsb' 0 10

/-- The physical address of BIU (R67). -/
def biuAddress : Word := 0xFFFE0130

/-- A write of BIU: bits 6 and 10 forced to zero; a change of IS1 clears or sets TV[0] of every cache entry (R41). -/
def State.biuWrite (s : State) (v : Word) : State :=
  let new := v &&& ~~~0x00000440#32
  let ic :=
    if s.biu.getLsbD 11 == new.getLsbD 11 then s.ic
    else if new.getLsbD 11 then s.ic.mapTv (fun tv => tv &&& ~~~1#32)
    else s.ic.mapTv (fun tv => tv ||| 1)
  { s with biu := new, ic := ic }

/-! ## Data memory -/

/-- `MemRead(a, n)`, after the checks: scratchpad, BIU, external interface (R65); SR.IsC does not matter (R92). -/
def memRead (a : Word) (n : Nat) (s : State) : Except Refusal (Word × State) :=
  let p := phys a
  if inScratch p then .ok (s.scratch.readLE (scratchOffset p) n, s)
  else if p = biuAddress then
    if n = 4 then .ok (s.biu, s) else .error .biuPartialAccess
  else .ok (s.extRead p n)

/-- The cache entry of an address, `a[11:2]` (R42). -/
def icIndex (a : Word) : BitVec 10 := a.extractLsb' 2 10

/-- Entry `k` of the line of an address, `4*a[11:4] + k` (R42). -/
def icLineIndex (a : Word) (k : BitVec 2) : BitVec 10 := a.extractLsb' 4 8 ++ k

/-- The cache with the four entries of the line of `a` invalidated (R73, D33). -/
def invalidateLine (a : Word) (c : ICache) : ICache :=
  [0#2, 1#2, 2#2, 3#2].foldl
    (fun c k => c.write (icLineIndex a k) { c.read (icLineIndex a k) with tv := 0x00000002 }) c

/-- The cache part of an isolated store (R73). -/
def isolatedCache (a v : Word) (s : State) : ICache :=
  if s.biuIs1 then
    if s.biuTag then invalidateLine a s.ic
    else if !s.biuLock then
      s.ic.write (icIndex a) { s.ic.read (icIndex a) with data := v <<< (8 * (a.extractLsb' 0 2).toNat) }
    else s.ic
  else s.ic

/-- The scratchpad part of an isolated store (R74). -/
def isolatedScratch (a : Word) (n : Nat) (v : Word) (s : State) : Memory :=
  if s.params.isolatedScratchWrite && s.biuDs && !s.biuLock then s.scratch.writeLE (scratchOffset a) n v else s.scratch

/-- `IsolatedStore(a, n, v)`: the store made while SR.IsC = 1 (R72 to R74). -/
def State.isolatedStore (s : State) (a : Word) (n : Nat) (v : Word) : State :=
  { s with ic := isolatedCache a (lowBytes n v) s, scratch := isolatedScratch a n v s }

/-- `MemWrite(a, n, v)`, after the checks (R72). -/
def memWrite (a : Word) (n : Nat) (v : Word) (s : State) : Except Refusal State :=
  if s.isc then .ok (s.isolatedStore a n v)
  else
    let p := phys a
    if inScratch p then .ok { s with scratch := s.scratch.writeLE (scratchOffset p) n v }
    else if p = biuAddress then
      if n = 4 then .ok (s.biuWrite v) else .error .biuPartialAccess
    else .ok (s.extWrite p n v)

/-! ## The coprocessor-2 interface (R310) -/

/-- `GteReadData(r)`: a recorded request with an oracle answer. -/
def State.gteReadData (s : State) (r : RegNum) : Word × State :=
  (Config.gteDataAnswer s.events s.draws r, { s with events := .gteReadData r :: s.events })

/-- `GteReadCtrl(r)`: a recorded request with an oracle answer. -/
def State.gteReadCtrl (s : State) (r : RegNum) : Word × State :=
  (Config.gteCtrlAnswer s.events s.draws r, { s with events := .gteReadCtrl r :: s.events })

/-- `GteWriteData(r, v)`: a recorded event. -/
def State.gteWriteData (s : State) (r : RegNum) (v : Word) : State :=
  { s with events := .gteWriteData r v :: s.events }

/-- `GteWriteCtrl(r, v)`: a recorded event. -/
def State.gteWriteCtrl (s : State) (r : RegNum) (v : Word) : State :=
  { s with events := .gteWriteCtrl r v :: s.events }

/-- `GteCommand(cofun)`: a recorded event. -/
def State.gteCommand (s : State) (cofun : BitVec 25) : State :=
  { s with events := .gteCommand cofun :: s.events }

end Sys2Proof.Machine
end

