-- ==== Sys2Proof/Machine/Operands.lean ====
section
/-!
DEFINITION. The operand forms: immediates, effective addresses, branch and jump targets, shift amounts (R107, R108, R232,
R260).
-/

namespace Sys2Proof.Machine

/-- `sext_32(imm16)` (R107). -/
def sextImm (imm : BitVec 16) : Word := imm.signExtend 32

/-- `zext_32(imm16)` (R107). -/
def zextImm (imm : BitVec 16) : Word := imm.setWidth 32

/-- LUI's immediate, `imm16 ++ 0x0000` (R107). -/
def upperImm (imm : BitVec 16) : Word := imm ++ 0x0000#16

/-- The variable shift amount `x[rs][4:0]` (R107). -/
def shiftAmount (v : Word) : BitVec 5 := v.extractLsb' 0 5

/-- `v << n` (R10). -/
def shiftLeft (v : Word) (n : BitVec 5) : Word := v <<< n.toNat

/-- `v >>u n` (R10). -/
def shiftRightLogical (v : Word) (n : BitVec 5) : Word := v >>> n.toNat

/-- `v >>s n` (R10). -/
def shiftRightArithmetic (v : Word) (n : BitVec 5) : Word := v.sshiftRight n.toNat

/-- The effective address `x[rs] + sext_32(imm16)`, modulo 2^32 (R260). -/
def effectiveAddress (rs : RegNum) (imm : BitVec 16) (s : State) : Word := s.reg rs + sextImm imm

/-- The target of a branch at `pc`: `pc + 4 + (sext_32(imm16) << 2)` (R232). -/
def branchTarget (pc : Word) (imm : BitVec 16) : Word := pc + 4 + (sextImm imm <<< 2)

/-- The target of a jump at `pc`: `(pc + 4)[31:28] ++ target26 ++ 0b00` (R232). -/
def jumpTarget (pc : Word) (target : BitVec 26) : Word := (pc + 4).extractLsb' 28 4 ++ target ++ 0b00#2

/-- The link value `pc + 8` (R233). -/
def linkValue (pc : Word) : Word := pc + 8

/-- `k = a[1:0]`, the byte's place in its aligned word (R266). -/
def byteInWord (a : Word) : Nat := (a.extractLsb' 0 2).toNat

/-- The aligned word an address lies in, `a & 0xFFFFFFFC` (R266). -/
def wordBase (a : Word) : Word := a &&& 0xFFFFFFFC

/-- Whether an access of `width` bytes at `a` is misaligned: 2 bytes need `a[0] = 0`, 4 need `a[1:0] = 0` (R71). -/
def misaligned (width : Nat) (a : Word) : Bool :=
  match width with
  | 2 => a.extractLsb' 0 1 != 0
  | 4 => a.extractLsb' 0 2 != 0
  | _ => false

end Sys2Proof.Machine
end

