-- ==== Sys2Proof/Machine/Alu.lean ====
section
/-!
DEFINITION. The integer ALU instructions (spec/41_alu.md R170 to R194). Operands are read before the pending load commits
(R134), results written after it (R140).
-/

namespace Sys2Proof.Machine

/-! ## Register-register -/

/-- ADD (R171): Ov on signed overflow, also when rd is r0. -/
def execAdd (rd rs rt : RegNum) (s : State) : Out :=
  if addOverflows (s.reg rs) (s.reg rt) then raise .ov Op.special s else writeReg rd (s.reg rs + s.reg rt) s

/-- ADDU (R172) -/
def execAddu (rd rs rt : RegNum) (s : State) : Out := writeReg rd (s.reg rs + s.reg rt) s

/-- SUB (R173): Ov on signed overflow. -/
def execSub (rd rs rt : RegNum) (s : State) : Out :=
  if subOverflows (s.reg rs) (s.reg rt) then raise .ov Op.special s else writeReg rd (s.reg rs - s.reg rt) s

/-- SUBU (R174) -/
def execSubu (rd rs rt : RegNum) (s : State) : Out := writeReg rd (s.reg rs - s.reg rt) s

/-- AND (R175) -/
def execAnd (rd rs rt : RegNum) (s : State) : Out := writeReg rd (s.reg rs &&& s.reg rt) s

/-- OR (R176) -/
def execOr (rd rs rt : RegNum) (s : State) : Out := writeReg rd (s.reg rs ||| s.reg rt) s

/-- XOR (R177) -/
def execXor (rd rs rt : RegNum) (s : State) : Out := writeReg rd (s.reg rs ^^^ s.reg rt) s

/-- NOR (R178) -/
def execNor (rd rs rt : RegNum) (s : State) : Out := writeReg rd (~~~(s.reg rs ||| s.reg rt)) s

/-- SLT (R179) -/
def execSlt (rd rs rt : RegNum) (s : State) : Out := writeReg rd (boolWord (lessSigned (s.reg rs) (s.reg rt))) s

/-- SLTU (R180) -/
def execSltu (rd rs rt : RegNum) (s : State) : Out := writeReg rd (boolWord (lessUnsigned (s.reg rs) (s.reg rt))) s

/-! ## Register-immediate -/

/-- ADDI (R181): Ov on signed overflow, also when rt is r0. -/
def execAddi (rt rs : RegNum) (imm : BitVec 16) (s : State) : Out :=
  if addOverflows (s.reg rs) (sextImm imm) then raise .ov Op.addi s else writeReg rt (s.reg rs + sextImm imm) s

/-- ADDIU (R182) -/
def execAddiu (rt rs : RegNum) (imm : BitVec 16) (s : State) : Out := writeReg rt (s.reg rs + sextImm imm) s

/-- SLTI (R183) -/
def execSlti (rt rs : RegNum) (imm : BitVec 16) (s : State) : Out :=
  writeReg rt (boolWord (lessSigned (s.reg rs) (sextImm imm))) s

/-- SLTIU (R184): the sign-extended immediate, compared unsigned. -/
def execSltiu (rt rs : RegNum) (imm : BitVec 16) (s : State) : Out :=
  writeReg rt (boolWord (lessUnsigned (s.reg rs) (sextImm imm))) s

/-- ANDI (R185) -/
def execAndi (rt rs : RegNum) (imm : BitVec 16) (s : State) : Out := writeReg rt (s.reg rs &&& zextImm imm) s

/-- ORI (R186) -/
def execOri (rt rs : RegNum) (imm : BitVec 16) (s : State) : Out := writeReg rt (s.reg rs ||| zextImm imm) s

/-- XORI (R187) -/
def execXori (rt rs : RegNum) (imm : BitVec 16) (s : State) : Out := writeReg rt (s.reg rs ^^^ zextImm imm) s

/-- LUI (R188) -/
def execLui (rt : RegNum) (imm : BitVec 16) (s : State) : Out := writeReg rt (upperImm imm) s

/-! ## Shifts -/

/-- SLL (R189); `sll r0, r0, 0` is the no-op (R117). -/
def execSll (rd rt : RegNum) (sa : BitVec 5) (s : State) : Out := writeReg rd (shiftLeft (s.reg rt) sa) s

/-- SRL (R190) -/
def execSrl (rd rt : RegNum) (sa : BitVec 5) (s : State) : Out := writeReg rd (shiftRightLogical (s.reg rt) sa) s

/-- SRA (R191) -/
def execSra (rd rt : RegNum) (sa : BitVec 5) (s : State) : Out := writeReg rd (shiftRightArithmetic (s.reg rt) sa) s

/-- SLLV (R192): only the low five bits of x[rs] count. -/
def execSllv (rd rt rs : RegNum) (s : State) : Out := writeReg rd (shiftLeft (s.reg rt) (shiftAmount (s.reg rs))) s

/-- SRLV (R193) -/
def execSrlv (rd rt rs : RegNum) (s : State) : Out := writeReg rd (shiftRightLogical (s.reg rt) (shiftAmount (s.reg rs))) s

/-- SRAV (R194) -/
def execSrav (rd rt rs : RegNum) (s : State) : Out :=
  writeReg rd (shiftRightArithmetic (s.reg rt) (shiftAmount (s.reg rs))) s

end Sys2Proof.Machine
end

