-- ==== Sys2Proof/Machine/Branch.lean ====
section
/-!
DEFINITION. Branches and jumps (spec/43_branch.md R230 to R241). None raises an exception when it executes: a bad target
faults at its fetch (R231). Operands, a link register among them, are read before the link is written.
-/

namespace Sys2Proof.Machine

/-! ## Shared operations -/

/-- The write of the return address `pc + 8` into register `r` (R233, R235, R240). -/
def link (r : RegNum) (pc : Word) (s : State) : State := s.setReg r (linkValue pc)

/-- A REGIMM branch with rt[0] = 0: taken when x[rs] is negative (R240). -/
def branchIfNegative (rs : RegNum) (imm : BitVec 16) (results : State → State) (s : State) : Out :=
  branch (isNegative (s.reg rs)) (branchTarget s.pc imm) results s

/-- A REGIMM branch with rt[0] = 1: taken when x[rs] is not negative (R241). -/
def branchIfNotNegative (rs : RegNum) (imm : BitVec 16) (results : State → State) (s : State) : Out :=
  branch (!isNegative (s.reg rs)) (branchTarget s.pc imm) results s

/-! ## Jumps -/

/-- J (R233) -/
def execJ (target : BitVec 26) (s : State) : Out := branch true (jumpTarget s.pc target) id s

/-- JAL (R233): r31 takes the link. -/
def execJal (target : BitVec 26) (s : State) : Out := branch true (jumpTarget s.pc target) (link 31 s.pc) s

/-- JR (R234) -/
def execJr (rs : RegNum) (s : State) : Out := branch true (s.reg rs) id s

/-- JALR (R235): the target is read before rd takes the link. -/
def execJalr (rd rs : RegNum) (s : State) : Out := branch true (s.reg rs) (link rd s.pc) s

/-! ## Conditional branches -/

/-- BEQ (R236) -/
def execBeq (rs rt : RegNum) (imm : BitVec 16) (s : State) : Out :=
  branch (s.reg rs == s.reg rt) (branchTarget s.pc imm) id s

/-- BNE (R237) -/
def execBne (rs rt : RegNum) (imm : BitVec 16) (s : State) : Out :=
  branch (s.reg rs != s.reg rt) (branchTarget s.pc imm) id s

/-- BLEZ (R238) -/
def execBlez (rs : RegNum) (imm : BitVec 16) (s : State) : Out :=
  branch (lessSigned (s.reg rs) 1) (branchTarget s.pc imm) id s

/-- BGTZ (R239) -/
def execBgtz (rs : RegNum) (imm : BitVec 16) (s : State) : Out :=
  branch (!lessSigned (s.reg rs) 1) (branchTarget s.pc imm) id s

/-! ## REGIMM: the linking forms write r31 whether or not the branch is taken -/

/-- BLTZ (R240) -/
def execBltz (rs : RegNum) (imm : BitVec 16) (s : State) : Out := branchIfNegative rs imm id s

/-- BGEZ (R241) -/
def execBgez (rs : RegNum) (imm : BitVec 16) (s : State) : Out := branchIfNotNegative rs imm id s

/-- REGIMM rt = 2, an alias of BLTZ (R240) -/
def execBltzAliasRt2 (rs : RegNum) (imm : BitVec 16) (s : State) : Out := branchIfNegative rs imm id s

/-- REGIMM rt = 3, an alias of BGEZ (R241) -/
def execBgezAliasRt3 (rs : RegNum) (imm : BitVec 16) (s : State) : Out := branchIfNotNegative rs imm id s

/-- REGIMM rt = 4, an alias of BLTZ (R240) -/
def execBltzAliasRt4 (rs : RegNum) (imm : BitVec 16) (s : State) : Out := branchIfNegative rs imm id s

/-- REGIMM rt = 5, an alias of BGEZ (R241) -/
def execBgezAliasRt5 (rs : RegNum) (imm : BitVec 16) (s : State) : Out := branchIfNotNegative rs imm id s

/-- REGIMM rt = 6, an alias of BLTZ (R240) -/
def execBltzAliasRt6 (rs : RegNum) (imm : BitVec 16) (s : State) : Out := branchIfNegative rs imm id s

/-- REGIMM rt = 7, an alias of BGEZ (R241) -/
def execBgezAliasRt7 (rs : RegNum) (imm : BitVec 16) (s : State) : Out := branchIfNotNegative rs imm id s

/-- REGIMM rt = 8, an alias of BLTZ (R240) -/
def execBltzAliasRt8 (rs : RegNum) (imm : BitVec 16) (s : State) : Out := branchIfNegative rs imm id s

/-- REGIMM rt = 9, an alias of BGEZ (R241) -/
def execBgezAliasRt9 (rs : RegNum) (imm : BitVec 16) (s : State) : Out := branchIfNotNegative rs imm id s

/-- REGIMM rt = 10, an alias of BLTZ (R240) -/
def execBltzAliasRt10 (rs : RegNum) (imm : BitVec 16) (s : State) : Out := branchIfNegative rs imm id s

/-- REGIMM rt = 11, an alias of BGEZ (R241) -/
def execBgezAliasRt11 (rs : RegNum) (imm : BitVec 16) (s : State) : Out := branchIfNotNegative rs imm id s

/-- REGIMM rt = 12, an alias of BLTZ (R240) -/
def execBltzAliasRt12 (rs : RegNum) (imm : BitVec 16) (s : State) : Out := branchIfNegative rs imm id s

/-- REGIMM rt = 13, an alias of BGEZ (R241) -/
def execBgezAliasRt13 (rs : RegNum) (imm : BitVec 16) (s : State) : Out := branchIfNotNegative rs imm id s

/-- REGIMM rt = 14, an alias of BLTZ (R240) -/
def execBltzAliasRt14 (rs : RegNum) (imm : BitVec 16) (s : State) : Out := branchIfNegative rs imm id s

/-- REGIMM rt = 15, an alias of BGEZ (R241) -/
def execBgezAliasRt15 (rs : RegNum) (imm : BitVec 16) (s : State) : Out := branchIfNotNegative rs imm id s

/-- BLTZAL (R240) -/
def execBltzal (rs : RegNum) (imm : BitVec 16) (s : State) : Out := branchIfNegative rs imm (link 31 s.pc) s

/-- BGEZAL (R241) -/
def execBgezal (rs : RegNum) (imm : BitVec 16) (s : State) : Out := branchIfNotNegative rs imm (link 31 s.pc) s

/-- REGIMM rt = 18, an alias of BLTZ (R240) -/
def execBltzAliasRt18 (rs : RegNum) (imm : BitVec 16) (s : State) : Out := branchIfNegative rs imm id s

/-- REGIMM rt = 19, an alias of BGEZ (R241) -/
def execBgezAliasRt19 (rs : RegNum) (imm : BitVec 16) (s : State) : Out := branchIfNotNegative rs imm id s

/-- REGIMM rt = 20, an alias of BLTZ (R240) -/
def execBltzAliasRt20 (rs : RegNum) (imm : BitVec 16) (s : State) : Out := branchIfNegative rs imm id s

/-- REGIMM rt = 21, an alias of BGEZ (R241) -/
def execBgezAliasRt21 (rs : RegNum) (imm : BitVec 16) (s : State) : Out := branchIfNotNegative rs imm id s

/-- REGIMM rt = 22, an alias of BLTZ (R240) -/
def execBltzAliasRt22 (rs : RegNum) (imm : BitVec 16) (s : State) : Out := branchIfNegative rs imm id s

/-- REGIMM rt = 23, an alias of BGEZ (R241) -/
def execBgezAliasRt23 (rs : RegNum) (imm : BitVec 16) (s : State) : Out := branchIfNotNegative rs imm id s

/-- REGIMM rt = 24, an alias of BLTZ (R240) -/
def execBltzAliasRt24 (rs : RegNum) (imm : BitVec 16) (s : State) : Out := branchIfNegative rs imm id s

/-- REGIMM rt = 25, an alias of BGEZ (R241) -/
def execBgezAliasRt25 (rs : RegNum) (imm : BitVec 16) (s : State) : Out := branchIfNotNegative rs imm id s

/-- REGIMM rt = 26, an alias of BLTZ (R240) -/
def execBltzAliasRt26 (rs : RegNum) (imm : BitVec 16) (s : State) : Out := branchIfNegative rs imm id s

/-- REGIMM rt = 27, an alias of BGEZ (R241) -/
def execBgezAliasRt27 (rs : RegNum) (imm : BitVec 16) (s : State) : Out := branchIfNotNegative rs imm id s

/-- REGIMM rt = 28, an alias of BLTZ (R240) -/
def execBltzAliasRt28 (rs : RegNum) (imm : BitVec 16) (s : State) : Out := branchIfNegative rs imm id s

/-- REGIMM rt = 29, an alias of BGEZ (R241) -/
def execBgezAliasRt29 (rs : RegNum) (imm : BitVec 16) (s : State) : Out := branchIfNotNegative rs imm id s

/-- REGIMM rt = 30, an alias of BLTZ (R240) -/
def execBltzAliasRt30 (rs : RegNum) (imm : BitVec 16) (s : State) : Out := branchIfNegative rs imm id s

/-- REGIMM rt = 31, an alias of BGEZ (R241) -/
def execBgezAliasRt31 (rs : RegNum) (imm : BitVec 16) (s : State) : Out := branchIfNotNegative rs imm id s

end Sys2Proof.Machine
end

