-- ==== Sys2Proof/Machine/LoadStore.lean ====
section
/-!
DEFINITION. Loads and stores (spec/44_loadstore.md R260 to R273). A load reads memory before the pending load commits and
sets a new pending load (R261); a store writes memory after the commit, with the data its register held before it (R262).
-/

namespace Sys2Proof.Machine

/-! ## Shared operations -/

/-- The checks of R260 on a load of `width` bytes at `a`: alignment, then the kernel segment; else AdEL. -/
def checkLoad (op : Opcode) (width : Nat) (a : Word) (s : State) (k : Out) : Out :=
  if misaligned width a || s.ksegFault a then raise (.adEL a) op s else k

/-- The checks of R260 on a store of `width` bytes at `a`; else AdES. -/
def checkStore (op : Opcode) (width : Nat) (a : Word) (s : State) (k : Out) : Out :=
  if misaligned width a || s.ksegFault a then raise (.adES a) op s else k

/-- `LoadDelayed(rt, f(MemRead(a, n)))` (R261). -/
def loadInto (rt : RegNum) (a : Word) (n : Nat) (f : Word → Word) (s : State) : Out :=
  match memRead a n s with
  | .error r => .refused r
  | .ok (m, s') => retireLoad rt (f m) s'

/-- `MemWrite(a, n, v)` after the pending load has committed (R262). -/
def storeTo (a : Word) (n : Nat) (v : Word) (s : State) : Out :=
  match memWrite a n v s.commitLoad with
  | .error r => .refused r
  | .ok s' => .next s'.advance

/-- The value of LWL: bytes 0 to k of the word in the top of `base` (R266). -/
def mergeLeft (k : Nat) (base m : Word) : Word := (base &&& (0x00FFFFFF#32 >>> (8 * k))) ||| (m <<< (8 * (3 - k)))

/-- The value of LWR: bytes k to 3 of the word in the bottom of `base` (R267). -/
def mergeRight (k : Nat) (base m : Word) : Word := (base &&& ~~~(0xFFFFFFFF#32 >>> (8 * k))) ||| m

/-! ## Loads -/

/-- LB (R263) -/
def execLb (rt rs : RegNum) (imm : BitVec 16) (s : State) : Out :=
  let a := effectiveAddress rs imm s
  checkLoad Op.lb 1 a s (loadInto rt a 1 (fun m => (m.setWidth 8).signExtend 32) s)

/-- LBU (R264) -/
def execLbu (rt rs : RegNum) (imm : BitVec 16) (s : State) : Out :=
  let a := effectiveAddress rs imm s
  checkLoad Op.lbu 1 a s (loadInto rt a 1 (fun m => (m.setWidth 8).setWidth 32) s)

/-- LH (R265) -/
def execLh (rt rs : RegNum) (imm : BitVec 16) (s : State) : Out :=
  let a := effectiveAddress rs imm s
  checkLoad Op.lh 2 a s (loadInto rt a 2 (fun m => (m.setWidth 16).signExtend 32) s)

/-- LHU (R265) -/
def execLhu (rt rs : RegNum) (imm : BitVec 16) (s : State) : Out :=
  let a := effectiveAddress rs imm s
  checkLoad Op.lhu 2 a s (loadInto rt a 2 (fun m => (m.setWidth 16).setWidth 32) s)

/-- LW (R268) -/
def execLw (rt rs : RegNum) (imm : BitVec 16) (s : State) : Out :=
  let a := effectiveAddress rs imm s
  checkLoad Op.lw 4 a s (loadInto rt a 4 id s)

/-- LWL (R266): one access of k + 1 bytes, merged into `PendingOr(rt)` (R137). -/
def execLwl (rt rs : RegNum) (imm : BitVec 16) (s : State) : Out :=
  let a := effectiveAddress rs imm s
  checkLoad Op.lwl 1 a s (loadInto rt (wordBase a) (byteInWord a + 1) (mergeLeft (byteInWord a) (s.pendingOr rt)) s)

/-- LWR (R267): one access of 4 - k bytes, merged into `PendingOr(rt)` (R137). -/
def execLwr (rt rs : RegNum) (imm : BitVec 16) (s : State) : Out :=
  let a := effectiveAddress rs imm s
  checkLoad Op.lwr 1 a s (loadInto rt a (4 - byteInWord a) (mergeRight (byteInWord a) (s.pendingOr rt)) s)

/-! ## Stores -/

/-- SB (R269) -/
def execSb (rt rs : RegNum) (imm : BitVec 16) (s : State) : Out :=
  let a := effectiveAddress rs imm s
  checkStore Op.sb 1 a s (storeTo a 1 (s.reg rt) s)

/-- SH (R270) -/
def execSh (rt rs : RegNum) (imm : BitVec 16) (s : State) : Out :=
  let a := effectiveAddress rs imm s
  checkStore Op.sh 2 a s (storeTo a 2 (s.reg rt) s)

/-- SW (R271) -/
def execSw (rt rs : RegNum) (imm : BitVec 16) (s : State) : Out :=
  let a := effectiveAddress rs imm s
  checkStore Op.sw 4 a s (storeTo a 4 (s.reg rt) s)

/-- SWL (R272): the most significant k + 1 bytes of rt into bytes 0 to k of the aligned word. -/
def execSwl (rt rs : RegNum) (imm : BitVec 16) (s : State) : Out :=
  let a := effectiveAddress rs imm s
  checkStore Op.swl 1 a s (storeTo (wordBase a) (byteInWord a + 1) (s.reg rt >>> (8 * (3 - byteInWord a))) s)

/-- SWR (R273): the least significant 4 - k bytes of rt into bytes k to 3 of the aligned word. -/
def execSwr (rt rs : RegNum) (imm : BitVec 16) (s : State) : Out :=
  let a := effectiveAddress rs imm s
  checkStore Op.swr 1 a s (storeTo a (4 - byteInWord a) (s.reg rt) s)

end Sys2Proof.Machine
end

