-- ==== Sys2Proof/Machine/Cop2.lean ====
section
/-!
DEFINITION. The coprocessor-2 instructions (spec/45_system_cop.md R309 to R319). The GTE is an external agent: its reads are oracle
answers, its writes and commands recorded events (R310). SR.CU2 is checked first, in both modes (R309).
-/

namespace Sys2Proof.Machine

/-- MFC2 (R311): load-delayed. -/
def execMfc2 (rt rd : RegNum) (s : State) : Out :=
  requireCop 2 Op.cop2 s (retireLoad rt (s.gteReadData rd).1 (s.gteReadData rd).2)

/-- CFC2 (R312): load-delayed. -/
def execCfc2 (rt rd : RegNum) (s : State) : Out :=
  requireCop 2 Op.cop2 s (retireLoad rt (s.gteReadCtrl rd).1 (s.gteReadCtrl rd).2)

/-- MTC2 (R313) -/
def execMtc2 (rt rd : RegNum) (s : State) : Out :=
  requireCop 2 Op.cop2 s (retire (fun c => c.gteWriteData rd (s.reg rt)) s)

/-- CTC2 (R314) -/
def execCtc2 (rt rd : RegNum) (s : State) : Out :=
  requireCop 2 Op.cop2 s (retire (fun c => c.gteWriteCtrl rd (s.reg rt)) s)

/-- LWC2 (R315): the word goes to GTE data register rt; no general register is written and no load is pending. -/
def execLwc2 (rt rs : RegNum) (imm : BitVec 16) (s : State) : Out :=
  let a := effectiveAddress rs imm s
  requireCop 2 Op.lwc2 s
    (checkLoad Op.lwc2 4 a s
      (match memRead a 4 s with
       | .error r => .refused r
       | .ok (m, s') => retire (fun c => c.gteWriteData rt m) s'))

/-- SWC2 (R316): the data is read from the GTE in the same phase as the store. -/
def execSwc2 (rt rs : RegNum) (imm : BitVec 16) (s : State) : Out :=
  let a := effectiveAddress rs imm s
  requireCop 2 Op.swc2 s
    (checkStore Op.swc2 4 a s (storeTo a 4 (s.gteReadData rt).1 (s.gteReadData rt).2))

/-- A COP2 command (R317) -/
def execCop2 (cofun : BitVec 25) (s : State) : Out :=
  requireCop 2 Op.cop2 s (retire (fun c => c.gteCommand cofun) s)

/-- BC2F (R318): always taken, the GTE driving no condition input. -/
def execBc2f (imm : BitVec 16) (s : State) : Out :=
  requireCop 2 Op.cop2 s (branch (!cop2Condition) (branchTarget s.pc imm) id s)

/-- BC2T (R318): never taken; its delay slot executes. -/
def execBc2t (imm : BitVec 16) (s : State) : Out :=
  requireCop 2 Op.cop2 s (branch cop2Condition (branchTarget s.pc imm) id s)

/-! ## No-operations of coprocessor 2 (R319) -/

/-- A COP2 word that is a no-operation after the usability check (R319). -/
def cop2NoOperation (s : State) : Out := requireCop 2 Op.cop2 s (noOperation s)

/-- COP2 rs = 1 -/
def execCop2NopRs01 (s : State) : Out := cop2NoOperation s

/-- COP2 rs = 3 -/
def execCop2NopRs03 (s : State) : Out := cop2NoOperation s

/-- COP2 rs = 5 -/
def execCop2NopRs05 (s : State) : Out := cop2NoOperation s

/-- COP2 rs = 7 -/
def execCop2NopRs07 (s : State) : Out := cop2NoOperation s

/-- COP2 rs = 9 -/
def execCop2NopRs09 (s : State) : Out := cop2NoOperation s

/-- COP2 rs = 10 -/
def execCop2NopRs10 (s : State) : Out := cop2NoOperation s

/-- COP2 rs = 11 -/
def execCop2NopRs11 (s : State) : Out := cop2NoOperation s

/-- COP2 rs = 12 -/
def execCop2NopRs12 (s : State) : Out := cop2NoOperation s

/-- COP2 rs = 13 -/
def execCop2NopRs13 (s : State) : Out := cop2NoOperation s

/-- COP2 rs = 14 -/
def execCop2NopRs14 (s : State) : Out := cop2NoOperation s

/-- COP2 rs = 15 -/
def execCop2NopRs15 (s : State) : Out := cop2NoOperation s

end Sys2Proof.Machine
end

