-- ==== Sys2Proof/Machine/CopAbsent.lean ====
section
/-!
DEFINITION. The absent coprocessors 1 and 3 and the coprocessor loads and stores the core does not have (spec/45_system_cop.md R320
to R322): CpU when the coprocessor is not usable, refused when it is. No address is computed and no access is made.
-/

namespace Sys2Proof.Machine

/-- A word for coprocessor `z`, which the core does not have: CpU when it is not usable, else `refuse(absent_coprocessor)`. -/
def absentCoprocessor (z : BitVec 2) (op : Opcode) (s : State) : Out := requireCop z op s (.refused .absentCoprocessor)

/-- COP1 (R320) -/
def execCop1 (s : State) : Out := absentCoprocessor 1 Op.cop1 s

/-- COP3 (R320) -/
def execCop3 (s : State) : Out := absentCoprocessor 3 Op.cop3 s

/-- LWC0 (R321) -/
def execLwc0 (s : State) : Out := absentCoprocessor 0 Op.lwc0 s

/-- LWC1 (R321) -/
def execLwc1 (s : State) : Out := absentCoprocessor 1 Op.lwc1 s

/-- LWC3 (R321) -/
def execLwc3 (s : State) : Out := absentCoprocessor 3 Op.lwc3 s

/-- SWC0 (R322) -/
def execSwc0 (s : State) : Out := absentCoprocessor 0 Op.swc0 s

/-- SWC1 (R322) -/
def execSwc1 (s : State) : Out := absentCoprocessor 1 Op.swc1 s

/-- SWC3 (R322) -/
def execSwc3 (s : State) : Out := absentCoprocessor 3 Op.swc3 s

end Sys2Proof.Machine
end

