-- ==== Sys2Proof/Machine/MulDiv.lean ====
section
/-!
DEFINITION. Multiply, divide and the HI/LO registers (spec/42_muldiv.md R210 to R218). None raises an exception, and the
results are visible to the very next instruction (R434).
-/

namespace Sys2Proof.Machine

/-- The exact product of two integers as 64 bits of two's complement (R210). -/
def product64 (a b : Int) : BitVec 64 := BitVec.ofInt 64 (a * b)

/-- HI of a 64-bit product: bits 63:32 (R210). -/
def productHi (p : BitVec 64) : Word := p.extractLsb' 32 32

/-- LO of a 64-bit product: bits 31:0 (R210). -/
def productLo (p : BitVec 64) : Word := p.extractLsb' 0 32

/-- LO of a signed division (R213): the sentinel for a zero divisor, 0x80000000 for INT_MIN / -1, else the quotient truncated
toward zero. -/
def signedQuotient (a b : Word) : Word :=
  if b = 0 then (if a.getLsbD 31 then 0x00000001 else 0xFFFFFFFF)
  else if a = 0x80000000 ∧ b = 0xFFFFFFFF then 0x80000000
  else BitVec.ofInt 32 (a.toInt.tdiv b.toInt)

/-- HI of a signed division (R213): the remainder has the dividend's sign. -/
def signedRemainder (a b : Word) : Word :=
  if b = 0 then a
  else if a = 0x80000000 ∧ b = 0xFFFFFFFF then 0x00000000
  else BitVec.ofInt 32 (a.toInt.tmod b.toInt)

/-- LO of an unsigned division (R214). -/
def unsignedQuotient (a b : Word) : Word := if b = 0 then 0xFFFFFFFF else BitVec.ofNat 32 (a.toNat / b.toNat)

/-- HI of an unsigned division (R214). -/
def unsignedRemainder (a b : Word) : Word := if b = 0 then a else BitVec.ofNat 32 (a.toNat % b.toNat)

/-- MULT (R211) -/
def execMult (rs rt : RegNum) (s : State) : Out :=
  writeHiLo (productHi (product64 (s.reg rs).toInt (s.reg rt).toInt)) (productLo (product64 (s.reg rs).toInt (s.reg rt).toInt)) s

/-- MULTU (R212) -/
def execMultu (rs rt : RegNum) (s : State) : Out :=
  writeHiLo (productHi (product64 (s.reg rs).toNat (s.reg rt).toNat)) (productLo (product64 (s.reg rs).toNat (s.reg rt).toNat)) s

/-- DIV (R213) -/
def execDiv (rs rt : RegNum) (s : State) : Out :=
  writeHiLo (signedRemainder (s.reg rs) (s.reg rt)) (signedQuotient (s.reg rs) (s.reg rt)) s

/-- DIVU (R214) -/
def execDivu (rs rt : RegNum) (s : State) : Out :=
  writeHiLo (unsignedRemainder (s.reg rs) (s.reg rt)) (unsignedQuotient (s.reg rs) (s.reg rt)) s

/-- MFHI (R215): not load-delayed. -/
def execMfhi (rd : RegNum) (s : State) : Out := writeReg rd s.hi s

/-- MFLO (R216): not load-delayed. -/
def execMflo (rd : RegNum) (s : State) : Out := writeReg rd s.lo s

/-- MTHI (R217) -/
def execMthi (rs : RegNum) (s : State) : Out := writeHiLo (s.reg rs) s.lo s

/-- MTLO (R218) -/
def execMtlo (rs : RegNum) (s : State) : Out := writeHiLo s.hi (s.reg rs) s

end Sys2Proof.Machine
end

