-- ==== Sys2Proof/Machine/Reserved.lean ====
section
/-!
DEFINITION. The reserved encodings: each raises the reserved-instruction exception (spec/30_encoding.md R115).
-/

namespace Sys2Proof.Machine

/-- A reserved word with primary opcode `op` (R115). -/
def reserved (op : Opcode) (s : State) : Out := raise .ri op s

/-- SPECIAL funct 0x01 -/
def execReservedSpecial01 (s : State) : Out := reserved Op.special s

/-- SPECIAL funct 0x05 -/
def execReservedSpecial05 (s : State) : Out := reserved Op.special s

/-- SPECIAL funct 0x0A -/
def execReservedSpecial0a (s : State) : Out := reserved Op.special s

/-- SPECIAL funct 0x0B -/
def execReservedSpecial0b (s : State) : Out := reserved Op.special s

/-- SPECIAL funct 0x0E -/
def execReservedSpecial0e (s : State) : Out := reserved Op.special s

/-- SPECIAL funct 0x0F -/
def execReservedSpecial0f (s : State) : Out := reserved Op.special s

/-- SPECIAL funct 0x14 -/
def execReservedSpecial14 (s : State) : Out := reserved Op.special s

/-- SPECIAL funct 0x15 -/
def execReservedSpecial15 (s : State) : Out := reserved Op.special s

/-- SPECIAL funct 0x16 -/
def execReservedSpecial16 (s : State) : Out := reserved Op.special s

/-- SPECIAL funct 0x17 -/
def execReservedSpecial17 (s : State) : Out := reserved Op.special s

/-- SPECIAL funct 0x1C -/
def execReservedSpecial1c (s : State) : Out := reserved Op.special s

/-- SPECIAL funct 0x1D -/
def execReservedSpecial1d (s : State) : Out := reserved Op.special s

/-- SPECIAL funct 0x1E -/
def execReservedSpecial1e (s : State) : Out := reserved Op.special s

/-- SPECIAL funct 0x1F -/
def execReservedSpecial1f (s : State) : Out := reserved Op.special s

/-- SPECIAL funct 0x28 -/
def execReservedSpecial28 (s : State) : Out := reserved Op.special s

/-- SPECIAL funct 0x29 -/
def execReservedSpecial29 (s : State) : Out := reserved Op.special s

/-- SPECIAL funct 0x2C -/
def execReservedSpecial2c (s : State) : Out := reserved Op.special s

/-- SPECIAL funct 0x2D -/
def execReservedSpecial2d (s : State) : Out := reserved Op.special s

/-- SPECIAL funct 0x2E -/
def execReservedSpecial2e (s : State) : Out := reserved Op.special s

/-- SPECIAL funct 0x2F -/
def execReservedSpecial2f (s : State) : Out := reserved Op.special s

/-- SPECIAL funct 0x30 -/
def execReservedSpecial30 (s : State) : Out := reserved Op.special s

/-- SPECIAL funct 0x31 -/
def execReservedSpecial31 (s : State) : Out := reserved Op.special s

/-- SPECIAL funct 0x32 -/
def execReservedSpecial32 (s : State) : Out := reserved Op.special s

/-- SPECIAL funct 0x33 -/
def execReservedSpecial33 (s : State) : Out := reserved Op.special s

/-- SPECIAL funct 0x34 -/
def execReservedSpecial34 (s : State) : Out := reserved Op.special s

/-- SPECIAL funct 0x35 -/
def execReservedSpecial35 (s : State) : Out := reserved Op.special s

/-- SPECIAL funct 0x36 -/
def execReservedSpecial36 (s : State) : Out := reserved Op.special s

/-- SPECIAL funct 0x37 -/
def execReservedSpecial37 (s : State) : Out := reserved Op.special s

/-- SPECIAL funct 0x38 -/
def execReservedSpecial38 (s : State) : Out := reserved Op.special s

/-- SPECIAL funct 0x39 -/
def execReservedSpecial39 (s : State) : Out := reserved Op.special s

/-- SPECIAL funct 0x3A -/
def execReservedSpecial3a (s : State) : Out := reserved Op.special s

/-- SPECIAL funct 0x3B -/
def execReservedSpecial3b (s : State) : Out := reserved Op.special s

/-- SPECIAL funct 0x3C -/
def execReservedSpecial3c (s : State) : Out := reserved Op.special s

/-- SPECIAL funct 0x3D -/
def execReservedSpecial3d (s : State) : Out := reserved Op.special s

/-- SPECIAL funct 0x3E -/
def execReservedSpecial3e (s : State) : Out := reserved Op.special s

/-- SPECIAL funct 0x3F -/
def execReservedSpecial3f (s : State) : Out := reserved Op.special s

/-- primary opcode 0x14 -/
def execReservedOp14 (s : State) : Out := reserved 0x14#6 s

/-- primary opcode 0x15 -/
def execReservedOp15 (s : State) : Out := reserved 0x15#6 s

/-- primary opcode 0x16 -/
def execReservedOp16 (s : State) : Out := reserved 0x16#6 s

/-- primary opcode 0x17 -/
def execReservedOp17 (s : State) : Out := reserved 0x17#6 s

/-- primary opcode 0x18 -/
def execReservedOp18 (s : State) : Out := reserved 0x18#6 s

/-- primary opcode 0x19 -/
def execReservedOp19 (s : State) : Out := reserved 0x19#6 s

/-- primary opcode 0x1A -/
def execReservedOp1a (s : State) : Out := reserved 0x1A#6 s

/-- primary opcode 0x1B -/
def execReservedOp1b (s : State) : Out := reserved 0x1B#6 s

/-- primary opcode 0x1C -/
def execReservedOp1c (s : State) : Out := reserved 0x1C#6 s

/-- primary opcode 0x1D -/
def execReservedOp1d (s : State) : Out := reserved 0x1D#6 s

/-- primary opcode 0x1E -/
def execReservedOp1e (s : State) : Out := reserved 0x1E#6 s

/-- primary opcode 0x1F -/
def execReservedOp1f (s : State) : Out := reserved 0x1F#6 s

/-- primary opcode 0x27 -/
def execReservedOp27 (s : State) : Out := reserved 0x27#6 s

/-- primary opcode 0x2C -/
def execReservedOp2c (s : State) : Out := reserved 0x2C#6 s

/-- primary opcode 0x2D -/
def execReservedOp2d (s : State) : Out := reserved 0x2D#6 s

/-- primary opcode 0x2F -/
def execReservedOp2f (s : State) : Out := reserved 0x2F#6 s

/-- primary opcode 0x34 -/
def execReservedOp34 (s : State) : Out := reserved 0x34#6 s

/-- primary opcode 0x35 -/
def execReservedOp35 (s : State) : Out := reserved 0x35#6 s

/-- primary opcode 0x36 -/
def execReservedOp36 (s : State) : Out := reserved 0x36#6 s

/-- primary opcode 0x37 -/
def execReservedOp37 (s : State) : Out := reserved 0x37#6 s

/-- primary opcode 0x3C -/
def execReservedOp3c (s : State) : Out := reserved 0x3C#6 s

/-- primary opcode 0x3D -/
def execReservedOp3d (s : State) : Out := reserved 0x3D#6 s

/-- primary opcode 0x3E -/
def execReservedOp3e (s : State) : Out := reserved 0x3E#6 s

/-- primary opcode 0x3F -/
def execReservedOp3f (s : State) : Out := reserved 0x3F#6 s

end Sys2Proof.Machine
end

