-- ==== Sys2Proof/Machine/Cop0.lean ====
section
/-!
DEFINITION. The coprocessor-0 registers as MFC0 reads and MTC0 writes them (spec/10_state.md R28 to R39).
-/

namespace Sys2Proof.Machine

/-- What a read of a coprocessor-0 register number gives (R28). -/
inductive Cop0Read
  /-- a TLB register this core lacks: MFC0 raises RI -/
  | absent
  /-- no register: MFC0 is a no-operation -/
  | none
  | value (v : Word)
  deriving DecidableEq, Repr

/-- `cp0[n]` as MFC0 reads it (R28, R39). -/
def cop0Read (n : RegNum) (s : State) : Cop0Read :=
  match n with
  | 0#5 => .absent
  | 1#5 => .absent
  | 2#5 => .absent
  | 3#5 => .value s.bpc
  | 4#5 => .absent
  | 5#5 => .value s.bda
  | 6#5 => .value s.tar
  | 7#5 => .value s.dcic
  | 8#5 => .value s.badVaddr
  | 9#5 => .value s.bdam
  | 10#5 => .absent
  | 11#5 => .value s.bpcm
  | 12#5 => .value s.sr
  | 13#5 => .value s.cause
  | 14#5 => .value s.epc
  | 15#5 => .value s.prid
  | _ => .none

/-- The bits of SR that MTC0 writes (R30). -/
def srWriteMask : Word := 0xF27FFF3F

/-- The bits of Cause that MTC0 writes (R32). -/
def causeWriteMask : Word := 0x00000300

/-- The bits of DCIC that MTC0 writes (R38). -/
def dcicWriteMask : Word := 0xFF80003F

/-- `cp0[n] <- v` as MTC0 writes it (R28, R291): a read-only or absent register ignores the write. -/
def State.cop0Write (s : State) (n : RegNum) (v : Word) : State :=
  { s with
    bpc := if n = 3 then v else s.bpc
    bda := if n = 5 then v else s.bda
    dcic := if n = 7 then v &&& dcicWriteMask else s.dcic
    bdam := if n = 9 then v else s.bdam
    bpcm := if n = 11 then v else s.bpcm
    sr := if n = 12 then v &&& srWriteMask else s.sr
    cause := if n = 13 then (s.cause &&& ~~~causeWriteMask) ||| (v &&& causeWriteMask) else s.cause }

end Sys2Proof.Machine
end

