-- ==== Sys2Proof/Machine/System.lean ====
section
/-!
DEFINITION. SYSCALL, BREAK and the coprocessor-0 instructions (spec/45_system_cop.md R290 to R301). Every COP0 word checks that
coprocessor 0 is usable before anything else (R293).
-/

namespace Sys2Proof.Machine

/-! ## System calls and breakpoints -/

/-- SYSCALL (R300): the code field is recorded nowhere. -/
def execSyscall (s : State) : Out := raise .sys Op.special s

/-- BREAK (R301) -/
def execBrk (s : State) : Out := raise .bp Op.special s

/-! ## Shared operations -/

/-- A COP0 word that is a no-operation after the usability check (R296). -/
def cop0NoOperation (s : State) : Out := requireCop 0 Op.cop0 s (noOperation s)

/-- A COP0 word that is reserved after the usability check (R294, R295). -/
def cop0Reserved (s : State) : Out := requireCop 0 Op.cop0 s (raise .ri Op.cop0 s)

/-! ## Moves, branches and RFE -/

/-- MFC0 (R290): RI for the absent TLB registers, a no-operation for numbers 16 to 31, else load-delayed. -/
def execMfc0 (rt rd : RegNum) (s : State) : Out :=
  requireCop 0 Op.cop0 s
    (match cop0Read rd s with
     | .absent => raise .ri Op.cop0 s
     | .none => noOperation s
     | .value v => retireLoad rt v s)

/-- MTC0 (R291): not delayed; the interrupt-pending flag follows, being derived from SR and Cause (R45). -/
def execMtc0 (rt rd : RegNum) (s : State) : Out :=
  requireCop 0 Op.cop0 s (retire (fun c => c.cop0Write rd (s.reg rt)) s)

/-- RFE (R292) -/
def execRfe (s : State) : Out := requireCop 0 Op.cop0 s (retire State.returnFromException s)

/-- BC0F (R298): taken when the condition input is false, which it always is. -/
def execBc0f (imm : BitVec 16) (s : State) : Out :=
  requireCop 0 Op.cop0 s (branch (!cop0Condition) (branchTarget s.pc imm) id s)

/-- BC0T (R298): never taken; its delay slot executes. -/
def execBc0t (imm : BitVec 16) (s : State) : Out :=
  requireCop 0 Op.cop0 s (branch cop0Condition (branchTarget s.pc imm) id s)

/-! ## Reserved COP0 forms: RI after the usability check -/

/-- CFC0 (R294) -/
def execCfc0 (s : State) : Out := cop0Reserved s

/-- CTC0 (R294) -/
def execCtc0 (s : State) : Out := cop0Reserved s

/-- TLBR (R295) -/
def execTlbr (s : State) : Out := cop0Reserved s

/-- TLBWI (R295) -/
def execTlbwi (s : State) : Out := cop0Reserved s

/-- TLBWR (R295) -/
def execTlbwr (s : State) : Out := cop0Reserved s

/-- TLBP (R295) -/
def execTlbp (s : State) : Out := cop0Reserved s

/-! ## No-operations of coprocessor 0 (R296) -/

/-- COP0 rs = 1 -/
def execCop0NopRs01 (s : State) : Out := cop0NoOperation s

/-- COP0 rs = 3 -/
def execCop0NopRs03 (s : State) : Out := cop0NoOperation s

/-- COP0 rs = 5 -/
def execCop0NopRs05 (s : State) : Out := cop0NoOperation s

/-- COP0 rs = 7 -/
def execCop0NopRs07 (s : State) : Out := cop0NoOperation s

/-- COP0 rs = 9 -/
def execCop0NopRs09 (s : State) : Out := cop0NoOperation s

/-- COP0 rs = 10 -/
def execCop0NopRs10 (s : State) : Out := cop0NoOperation s

/-- COP0 rs = 11 -/
def execCop0NopRs11 (s : State) : Out := cop0NoOperation s

/-- COP0 rs = 12 -/
def execCop0NopRs12 (s : State) : Out := cop0NoOperation s

/-- COP0 rs = 13 -/
def execCop0NopRs13 (s : State) : Out := cop0NoOperation s

/-- COP0 rs = 14 -/
def execCop0NopRs14 (s : State) : Out := cop0NoOperation s

/-- COP0 rs = 15 -/
def execCop0NopRs15 (s : State) : Out := cop0NoOperation s

/-- COP0 CO funct 0x00 -/
def execCop0CoNop00 (s : State) : Out := cop0NoOperation s

/-- COP0 CO funct 0x03 -/
def execCop0CoNop03 (s : State) : Out := cop0NoOperation s

/-- COP0 CO funct 0x04 -/
def execCop0CoNop04 (s : State) : Out := cop0NoOperation s

/-- COP0 CO funct 0x05 -/
def execCop0CoNop05 (s : State) : Out := cop0NoOperation s

/-- COP0 CO funct 0x07 -/
def execCop0CoNop07 (s : State) : Out := cop0NoOperation s

/-- COP0 CO funct 0x09 -/
def execCop0CoNop09 (s : State) : Out := cop0NoOperation s

/-- COP0 CO funct 0x0A -/
def execCop0CoNop0a (s : State) : Out := cop0NoOperation s

/-- COP0 CO funct 0x0B -/
def execCop0CoNop0b (s : State) : Out := cop0NoOperation s

/-- COP0 CO funct 0x0C -/
def execCop0CoNop0c (s : State) : Out := cop0NoOperation s

/-- COP0 CO funct 0x0D -/
def execCop0CoNop0d (s : State) : Out := cop0NoOperation s

/-- COP0 CO funct 0x0E -/
def execCop0CoNop0e (s : State) : Out := cop0NoOperation s

/-- COP0 CO funct 0x0F -/
def execCop0CoNop0f (s : State) : Out := cop0NoOperation s

/-- COP0 CO funct 0x11 -/
def execCop0CoNop11 (s : State) : Out := cop0NoOperation s

/-- COP0 CO funct 0x12 -/
def execCop0CoNop12 (s : State) : Out := cop0NoOperation s

/-- COP0 CO funct 0x13 -/
def execCop0CoNop13 (s : State) : Out := cop0NoOperation s

/-- COP0 CO funct 0x14 -/
def execCop0CoNop14 (s : State) : Out := cop0NoOperation s

/-- COP0 CO funct 0x15 -/
def execCop0CoNop15 (s : State) : Out := cop0NoOperation s

/-- COP0 CO funct 0x16 -/
def execCop0CoNop16 (s : State) : Out := cop0NoOperation s

/-- COP0 CO funct 0x17 -/
def execCop0CoNop17 (s : State) : Out := cop0NoOperation s

/-- COP0 CO funct 0x18 -/
def execCop0CoNop18 (s : State) : Out := cop0NoOperation s

/-- COP0 CO funct 0x19 -/
def execCop0CoNop19 (s : State) : Out := cop0NoOperation s

/-- COP0 CO funct 0x1A -/
def execCop0CoNop1a (s : State) : Out := cop0NoOperation s

/-- COP0 CO funct 0x1B -/
def execCop0CoNop1b (s : State) : Out := cop0NoOperation s

/-- COP0 CO funct 0x1C -/
def execCop0CoNop1c (s : State) : Out := cop0NoOperation s

/-- COP0 CO funct 0x1D -/
def execCop0CoNop1d (s : State) : Out := cop0NoOperation s

/-- COP0 CO funct 0x1E -/
def execCop0CoNop1e (s : State) : Out := cop0NoOperation s

/-- COP0 CO funct 0x1F -/
def execCop0CoNop1f (s : State) : Out := cop0NoOperation s

/-- COP0 CO funct 0x20 -/
def execCop0CoNop20 (s : State) : Out := cop0NoOperation s

/-- COP0 CO funct 0x21 -/
def execCop0CoNop21 (s : State) : Out := cop0NoOperation s

/-- COP0 CO funct 0x22 -/
def execCop0CoNop22 (s : State) : Out := cop0NoOperation s

/-- COP0 CO funct 0x23 -/
def execCop0CoNop23 (s : State) : Out := cop0NoOperation s

/-- COP0 CO funct 0x24 -/
def execCop0CoNop24 (s : State) : Out := cop0NoOperation s

/-- COP0 CO funct 0x25 -/
def execCop0CoNop25 (s : State) : Out := cop0NoOperation s

/-- COP0 CO funct 0x26 -/
def execCop0CoNop26 (s : State) : Out := cop0NoOperation s

/-- COP0 CO funct 0x27 -/
def execCop0CoNop27 (s : State) : Out := cop0NoOperation s

/-- COP0 CO funct 0x28 -/
def execCop0CoNop28 (s : State) : Out := cop0NoOperation s

/-- COP0 CO funct 0x29 -/
def execCop0CoNop29 (s : State) : Out := cop0NoOperation s

/-- COP0 CO funct 0x2A -/
def execCop0CoNop2a (s : State) : Out := cop0NoOperation s

/-- COP0 CO funct 0x2B -/
def execCop0CoNop2b (s : State) : Out := cop0NoOperation s

/-- COP0 CO funct 0x2C -/
def execCop0CoNop2c (s : State) : Out := cop0NoOperation s

/-- COP0 CO funct 0x2D -/
def execCop0CoNop2d (s : State) : Out := cop0NoOperation s

/-- COP0 CO funct 0x2E -/
def execCop0CoNop2e (s : State) : Out := cop0NoOperation s

/-- COP0 CO funct 0x2F -/
def execCop0CoNop2f (s : State) : Out := cop0NoOperation s

/-- COP0 CO funct 0x30 -/
def execCop0CoNop30 (s : State) : Out := cop0NoOperation s

/-- COP0 CO funct 0x31 -/
def execCop0CoNop31 (s : State) : Out := cop0NoOperation s

/-- COP0 CO funct 0x32 -/
def execCop0CoNop32 (s : State) : Out := cop0NoOperation s

/-- COP0 CO funct 0x33 -/
def execCop0CoNop33 (s : State) : Out := cop0NoOperation s

/-- COP0 CO funct 0x34 -/
def execCop0CoNop34 (s : State) : Out := cop0NoOperation s

/-- COP0 CO funct 0x35 -/
def execCop0CoNop35 (s : State) : Out := cop0NoOperation s

/-- COP0 CO funct 0x36 -/
def execCop0CoNop36 (s : State) : Out := cop0NoOperation s

/-- COP0 CO funct 0x37 -/
def execCop0CoNop37 (s : State) : Out := cop0NoOperation s

/-- COP0 CO funct 0x38 -/
def execCop0CoNop38 (s : State) : Out := cop0NoOperation s

/-- COP0 CO funct 0x39 -/
def execCop0CoNop39 (s : State) : Out := cop0NoOperation s

/-- COP0 CO funct 0x3A -/
def execCop0CoNop3a (s : State) : Out := cop0NoOperation s

/-- COP0 CO funct 0x3B -/
def execCop0CoNop3b (s : State) : Out := cop0NoOperation s

/-- COP0 CO funct 0x3C -/
def execCop0CoNop3c (s : State) : Out := cop0NoOperation s

/-- COP0 CO funct 0x3D -/
def execCop0CoNop3d (s : State) : Out := cop0NoOperation s

/-- COP0 CO funct 0x3E -/
def execCop0CoNop3e (s : State) : Out := cop0NoOperation s

/-- COP0 CO funct 0x3F -/
def execCop0CoNop3f (s : State) : Out := cop0NoOperation s

end Sys2Proof.Machine
end

