-- ==== Sys2Proof/Machine/Dispatch.lean ====
section
/-!
DEFINITION. Phase 6 and step 7 of the instruction cycle for one decoded instruction (spec/40_pipeline.md R130): one arm per
constructor, each one call of its meaning.
-/

namespace Sys2Proof.Machine

def exec (i : Instr) (s : State) : Host.Outcome State Fault Refusal :=
  match i with
  | .sll rd rt sa => Sys2Proof.Machine.execSll rd rt sa s
  | .srl rd rt sa => Sys2Proof.Machine.execSrl rd rt sa s
  | .sra rd rt sa => Sys2Proof.Machine.execSra rd rt sa s
  | .sllv rd rt rs => Sys2Proof.Machine.execSllv rd rt rs s
  | .srlv rd rt rs => Sys2Proof.Machine.execSrlv rd rt rs s
  | .srav rd rt rs => Sys2Proof.Machine.execSrav rd rt rs s
  | .jr rs => Sys2Proof.Machine.execJr rs s
  | .jalr rd rs => Sys2Proof.Machine.execJalr rd rs s
  | .syscall _ => Sys2Proof.Machine.execSyscall s
  | .brk _ => Sys2Proof.Machine.execBrk s
  | .mfhi rd => Sys2Proof.Machine.execMfhi rd s
  | .mthi rs => Sys2Proof.Machine.execMthi rs s
  | .mflo rd => Sys2Proof.Machine.execMflo rd s
  | .mtlo rs => Sys2Proof.Machine.execMtlo rs s
  | .mult rs rt => Sys2Proof.Machine.execMult rs rt s
  | .multu rs rt => Sys2Proof.Machine.execMultu rs rt s
  | .div rs rt => Sys2Proof.Machine.execDiv rs rt s
  | .divu rs rt => Sys2Proof.Machine.execDivu rs rt s
  | .add rd rs rt => Sys2Proof.Machine.execAdd rd rs rt s
  | .addu rd rs rt => Sys2Proof.Machine.execAddu rd rs rt s
  | .sub rd rs rt => Sys2Proof.Machine.execSub rd rs rt s
  | .subu rd rs rt => Sys2Proof.Machine.execSubu rd rs rt s
  | .and rd rs rt => Sys2Proof.Machine.execAnd rd rs rt s
  | .or rd rs rt => Sys2Proof.Machine.execOr rd rs rt s
  | .xor rd rs rt => Sys2Proof.Machine.execXor rd rs rt s
  | .nor rd rs rt => Sys2Proof.Machine.execNor rd rs rt s
  | .slt rd rs rt => Sys2Proof.Machine.execSlt rd rs rt s
  | .sltu rd rs rt => Sys2Proof.Machine.execSltu rd rs rt s
  | .bltz rs imm => Sys2Proof.Machine.execBltz rs imm s
  | .bgez rs imm => Sys2Proof.Machine.execBgez rs imm s
  | .bltzAliasRt2 rs imm => Sys2Proof.Machine.execBltzAliasRt2 rs imm s
  | .bgezAliasRt3 rs imm => Sys2Proof.Machine.execBgezAliasRt3 rs imm s
  | .bltzAliasRt4 rs imm => Sys2Proof.Machine.execBltzAliasRt4 rs imm s
  | .bgezAliasRt5 rs imm => Sys2Proof.Machine.execBgezAliasRt5 rs imm s
  | .bltzAliasRt6 rs imm => Sys2Proof.Machine.execBltzAliasRt6 rs imm s
  | .bgezAliasRt7 rs imm => Sys2Proof.Machine.execBgezAliasRt7 rs imm s
  | .bltzAliasRt8 rs imm => Sys2Proof.Machine.execBltzAliasRt8 rs imm s
  | .bgezAliasRt9 rs imm => Sys2Proof.Machine.execBgezAliasRt9 rs imm s
  | .bltzAliasRt10 rs imm => Sys2Proof.Machine.execBltzAliasRt10 rs imm s
  | .bgezAliasRt11 rs imm => Sys2Proof.Machine.execBgezAliasRt11 rs imm s
  | .bltzAliasRt12 rs imm => Sys2Proof.Machine.execBltzAliasRt12 rs imm s
  | .bgezAliasRt13 rs imm => Sys2Proof.Machine.execBgezAliasRt13 rs imm s
  | .bltzAliasRt14 rs imm => Sys2Proof.Machine.execBltzAliasRt14 rs imm s
  | .bgezAliasRt15 rs imm => Sys2Proof.Machine.execBgezAliasRt15 rs imm s
  | .bltzal rs imm => Sys2Proof.Machine.execBltzal rs imm s
  | .bgezal rs imm => Sys2Proof.Machine.execBgezal rs imm s
  | .bltzAliasRt18 rs imm => Sys2Proof.Machine.execBltzAliasRt18 rs imm s
  | .bgezAliasRt19 rs imm => Sys2Proof.Machine.execBgezAliasRt19 rs imm s
  | .bltzAliasRt20 rs imm => Sys2Proof.Machine.execBltzAliasRt20 rs imm s
  | .bgezAliasRt21 rs imm => Sys2Proof.Machine.execBgezAliasRt21 rs imm s
  | .bltzAliasRt22 rs imm => Sys2Proof.Machine.execBltzAliasRt22 rs imm s
  | .bgezAliasRt23 rs imm => Sys2Proof.Machine.execBgezAliasRt23 rs imm s
  | .bltzAliasRt24 rs imm => Sys2Proof.Machine.execBltzAliasRt24 rs imm s
  | .bgezAliasRt25 rs imm => Sys2Proof.Machine.execBgezAliasRt25 rs imm s
  | .bltzAliasRt26 rs imm => Sys2Proof.Machine.execBltzAliasRt26 rs imm s
  | .bgezAliasRt27 rs imm => Sys2Proof.Machine.execBgezAliasRt27 rs imm s
  | .bltzAliasRt28 rs imm => Sys2Proof.Machine.execBltzAliasRt28 rs imm s
  | .bgezAliasRt29 rs imm => Sys2Proof.Machine.execBgezAliasRt29 rs imm s
  | .bltzAliasRt30 rs imm => Sys2Proof.Machine.execBltzAliasRt30 rs imm s
  | .bgezAliasRt31 rs imm => Sys2Proof.Machine.execBgezAliasRt31 rs imm s
  | .j target => Sys2Proof.Machine.execJ target s
  | .jal target => Sys2Proof.Machine.execJal target s
  | .beq rs rt imm => Sys2Proof.Machine.execBeq rs rt imm s
  | .bne rs rt imm => Sys2Proof.Machine.execBne rs rt imm s
  | .blez rs imm => Sys2Proof.Machine.execBlez rs imm s
  | .bgtz rs imm => Sys2Proof.Machine.execBgtz rs imm s
  | .addi rt rs imm => Sys2Proof.Machine.execAddi rt rs imm s
  | .addiu rt rs imm => Sys2Proof.Machine.execAddiu rt rs imm s
  | .slti rt rs imm => Sys2Proof.Machine.execSlti rt rs imm s
  | .sltiu rt rs imm => Sys2Proof.Machine.execSltiu rt rs imm s
  | .andi rt rs imm => Sys2Proof.Machine.execAndi rt rs imm s
  | .ori rt rs imm => Sys2Proof.Machine.execOri rt rs imm s
  | .xori rt rs imm => Sys2Proof.Machine.execXori rt rs imm s
  | .lui rt imm => Sys2Proof.Machine.execLui rt imm s
  | .cop1 _ => Sys2Proof.Machine.execCop1 s
  | .cop3 _ => Sys2Proof.Machine.execCop3 s
  | .lb rt rs imm => Sys2Proof.Machine.execLb rt rs imm s
  | .lh rt rs imm => Sys2Proof.Machine.execLh rt rs imm s
  | .lwl rt rs imm => Sys2Proof.Machine.execLwl rt rs imm s
  | .lw rt rs imm => Sys2Proof.Machine.execLw rt rs imm s
  | .lbu rt rs imm => Sys2Proof.Machine.execLbu rt rs imm s
  | .lhu rt rs imm => Sys2Proof.Machine.execLhu rt rs imm s
  | .lwr rt rs imm => Sys2Proof.Machine.execLwr rt rs imm s
  | .sb rt rs imm => Sys2Proof.Machine.execSb rt rs imm s
  | .sh rt rs imm => Sys2Proof.Machine.execSh rt rs imm s
  | .swl rt rs imm => Sys2Proof.Machine.execSwl rt rs imm s
  | .sw rt rs imm => Sys2Proof.Machine.execSw rt rs imm s
  | .swr rt rs imm => Sys2Proof.Machine.execSwr rt rs imm s
  | .lwc0 _ _ _ => Sys2Proof.Machine.execLwc0 s
  | .lwc1 _ _ _ => Sys2Proof.Machine.execLwc1 s
  | .lwc2 rt rs imm => Sys2Proof.Machine.execLwc2 rt rs imm s
  | .lwc3 _ _ _ => Sys2Proof.Machine.execLwc3 s
  | .swc0 _ _ _ => Sys2Proof.Machine.execSwc0 s
  | .swc1 _ _ _ => Sys2Proof.Machine.execSwc1 s
  | .swc2 rt rs imm => Sys2Proof.Machine.execSwc2 rt rs imm s
  | .swc3 _ _ _ => Sys2Proof.Machine.execSwc3 s
  | .mfc0 rt rd => Sys2Proof.Machine.execMfc0 rt rd s
  | .cfc0 _ _ => Sys2Proof.Machine.execCfc0 s
  | .mtc0 rt rd => Sys2Proof.Machine.execMtc0 rt rd s
  | .ctc0 _ _ => Sys2Proof.Machine.execCtc0 s
  | .bc0f imm => Sys2Proof.Machine.execBc0f imm s
  | .bc0t imm => Sys2Proof.Machine.execBc0t imm s
  | .mfc2 rt rd => Sys2Proof.Machine.execMfc2 rt rd s
  | .cfc2 rt rd => Sys2Proof.Machine.execCfc2 rt rd s
  | .mtc2 rt rd => Sys2Proof.Machine.execMtc2 rt rd s
  | .ctc2 rt rd => Sys2Proof.Machine.execCtc2 rt rd s
  | .bc2f imm => Sys2Proof.Machine.execBc2f imm s
  | .bc2t imm => Sys2Proof.Machine.execBc2t imm s
  | .cop2 cofun => Sys2Proof.Machine.execCop2 cofun s
  | .reservedSpecial01 => Sys2Proof.Machine.execReservedSpecial01 s
  | .reservedSpecial05 => Sys2Proof.Machine.execReservedSpecial05 s
  | .reservedSpecial0a => Sys2Proof.Machine.execReservedSpecial0a s
  | .reservedSpecial0b => Sys2Proof.Machine.execReservedSpecial0b s
  | .reservedSpecial0e => Sys2Proof.Machine.execReservedSpecial0e s
  | .reservedSpecial0f => Sys2Proof.Machine.execReservedSpecial0f s
  | .reservedSpecial14 => Sys2Proof.Machine.execReservedSpecial14 s
  | .reservedSpecial15 => Sys2Proof.Machine.execReservedSpecial15 s
  | .reservedSpecial16 => Sys2Proof.Machine.execReservedSpecial16 s
  | .reservedSpecial17 => Sys2Proof.Machine.execReservedSpecial17 s
  | .reservedSpecial1c => Sys2Proof.Machine.execReservedSpecial1c s
  | .reservedSpecial1d => Sys2Proof.Machine.execReservedSpecial1d s
  | .reservedSpecial1e => Sys2Proof.Machine.execReservedSpecial1e s
  | .reservedSpecial1f => Sys2Proof.Machine.execReservedSpecial1f s
  | .reservedSpecial28 => Sys2Proof.Machine.execReservedSpecial28 s
  | .reservedSpecial29 => Sys2Proof.Machine.execReservedSpecial29 s
  | .reservedSpecial2c => Sys2Proof.Machine.execReservedSpecial2c s
  | .reservedSpecial2d => Sys2Proof.Machine.execReservedSpecial2d s
  | .reservedSpecial2e => Sys2Proof.Machine.execReservedSpecial2e s
  | .reservedSpecial2f => Sys2Proof.Machine.execReservedSpecial2f s
  | .reservedSpecial30 => Sys2Proof.Machine.execReservedSpecial30 s
  | .reservedSpecial31 => Sys2Proof.Machine.execReservedSpecial31 s
  | .reservedSpecial32 => Sys2Proof.Machine.execReservedSpecial32 s
  | .reservedSpecial33 => Sys2Proof.Machine.execReservedSpecial33 s
  | .reservedSpecial34 => Sys2Proof.Machine.execReservedSpecial34 s
  | .reservedSpecial35 => Sys2Proof.Machine.execReservedSpecial35 s
  | .reservedSpecial36 => Sys2Proof.Machine.execReservedSpecial36 s
  | .reservedSpecial37 => Sys2Proof.Machine.execReservedSpecial37 s
  | .reservedSpecial38 => Sys2Proof.Machine.execReservedSpecial38 s
  | .reservedSpecial39 => Sys2Proof.Machine.execReservedSpecial39 s
  | .reservedSpecial3a => Sys2Proof.Machine.execReservedSpecial3a s
  | .reservedSpecial3b => Sys2Proof.Machine.execReservedSpecial3b s
  | .reservedSpecial3c => Sys2Proof.Machine.execReservedSpecial3c s
  | .reservedSpecial3d => Sys2Proof.Machine.execReservedSpecial3d s
  | .reservedSpecial3e => Sys2Proof.Machine.execReservedSpecial3e s
  | .reservedSpecial3f => Sys2Proof.Machine.execReservedSpecial3f s
  | .reservedOp14 => Sys2Proof.Machine.execReservedOp14 s
  | .reservedOp15 => Sys2Proof.Machine.execReservedOp15 s
  | .reservedOp16 => Sys2Proof.Machine.execReservedOp16 s
  | .reservedOp17 => Sys2Proof.Machine.execReservedOp17 s
  | .reservedOp18 => Sys2Proof.Machine.execReservedOp18 s
  | .reservedOp19 => Sys2Proof.Machine.execReservedOp19 s
  | .reservedOp1a => Sys2Proof.Machine.execReservedOp1a s
  | .reservedOp1b => Sys2Proof.Machine.execReservedOp1b s
  | .reservedOp1c => Sys2Proof.Machine.execReservedOp1c s
  | .reservedOp1d => Sys2Proof.Machine.execReservedOp1d s
  | .reservedOp1e => Sys2Proof.Machine.execReservedOp1e s
  | .reservedOp1f => Sys2Proof.Machine.execReservedOp1f s
  | .reservedOp27 => Sys2Proof.Machine.execReservedOp27 s
  | .reservedOp2c => Sys2Proof.Machine.execReservedOp2c s
  | .reservedOp2d => Sys2Proof.Machine.execReservedOp2d s
  | .reservedOp2f => Sys2Proof.Machine.execReservedOp2f s
  | .reservedOp34 => Sys2Proof.Machine.execReservedOp34 s
  | .reservedOp35 => Sys2Proof.Machine.execReservedOp35 s
  | .reservedOp36 => Sys2Proof.Machine.execReservedOp36 s
  | .reservedOp37 => Sys2Proof.Machine.execReservedOp37 s
  | .reservedOp3c => Sys2Proof.Machine.execReservedOp3c s
  | .reservedOp3d => Sys2Proof.Machine.execReservedOp3d s
  | .reservedOp3e => Sys2Proof.Machine.execReservedOp3e s
  | .reservedOp3f => Sys2Proof.Machine.execReservedOp3f s
  | .cop0NopRs01 => Sys2Proof.Machine.execCop0NopRs01 s
  | .cop0NopRs03 => Sys2Proof.Machine.execCop0NopRs03 s
  | .cop0NopRs05 => Sys2Proof.Machine.execCop0NopRs05 s
  | .cop0NopRs07 => Sys2Proof.Machine.execCop0NopRs07 s
  | .cop0NopRs09 => Sys2Proof.Machine.execCop0NopRs09 s
  | .cop0NopRs10 => Sys2Proof.Machine.execCop0NopRs10 s
  | .cop0NopRs11 => Sys2Proof.Machine.execCop0NopRs11 s
  | .cop0NopRs12 => Sys2Proof.Machine.execCop0NopRs12 s
  | .cop0NopRs13 => Sys2Proof.Machine.execCop0NopRs13 s
  | .cop0NopRs14 => Sys2Proof.Machine.execCop0NopRs14 s
  | .cop0NopRs15 => Sys2Proof.Machine.execCop0NopRs15 s
  | .cop0CoNop00 => Sys2Proof.Machine.execCop0CoNop00 s
  | .tlbr => Sys2Proof.Machine.execTlbr s
  | .tlbwi => Sys2Proof.Machine.execTlbwi s
  | .cop0CoNop03 => Sys2Proof.Machine.execCop0CoNop03 s
  | .cop0CoNop04 => Sys2Proof.Machine.execCop0CoNop04 s
  | .cop0CoNop05 => Sys2Proof.Machine.execCop0CoNop05 s
  | .tlbwr => Sys2Proof.Machine.execTlbwr s
  | .cop0CoNop07 => Sys2Proof.Machine.execCop0CoNop07 s
  | .tlbp => Sys2Proof.Machine.execTlbp s
  | .cop0CoNop09 => Sys2Proof.Machine.execCop0CoNop09 s
  | .cop0CoNop0a => Sys2Proof.Machine.execCop0CoNop0a s
  | .cop0CoNop0b => Sys2Proof.Machine.execCop0CoNop0b s
  | .cop0CoNop0c => Sys2Proof.Machine.execCop0CoNop0c s
  | .cop0CoNop0d => Sys2Proof.Machine.execCop0CoNop0d s
  | .cop0CoNop0e => Sys2Proof.Machine.execCop0CoNop0e s
  | .cop0CoNop0f => Sys2Proof.Machine.execCop0CoNop0f s
  | .rfe => Sys2Proof.Machine.execRfe s
  | .cop0CoNop11 => Sys2Proof.Machine.execCop0CoNop11 s
  | .cop0CoNop12 => Sys2Proof.Machine.execCop0CoNop12 s
  | .cop0CoNop13 => Sys2Proof.Machine.execCop0CoNop13 s
  | .cop0CoNop14 => Sys2Proof.Machine.execCop0CoNop14 s
  | .cop0CoNop15 => Sys2Proof.Machine.execCop0CoNop15 s
  | .cop0CoNop16 => Sys2Proof.Machine.execCop0CoNop16 s
  | .cop0CoNop17 => Sys2Proof.Machine.execCop0CoNop17 s
  | .cop0CoNop18 => Sys2Proof.Machine.execCop0CoNop18 s
  | .cop0CoNop19 => Sys2Proof.Machine.execCop0CoNop19 s
  | .cop0CoNop1a => Sys2Proof.Machine.execCop0CoNop1a s
  | .cop0CoNop1b => Sys2Proof.Machine.execCop0CoNop1b s
  | .cop0CoNop1c => Sys2Proof.Machine.execCop0CoNop1c s
  | .cop0CoNop1d => Sys2Proof.Machine.execCop0CoNop1d s
  | .cop0CoNop1e => Sys2Proof.Machine.execCop0CoNop1e s
  | .cop0CoNop1f => Sys2Proof.Machine.execCop0CoNop1f s
  | .cop0CoNop20 => Sys2Proof.Machine.execCop0CoNop20 s
  | .cop0CoNop21 => Sys2Proof.Machine.execCop0CoNop21 s
  | .cop0CoNop22 => Sys2Proof.Machine.execCop0CoNop22 s
  | .cop0CoNop23 => Sys2Proof.Machine.execCop0CoNop23 s
  | .cop0CoNop24 => Sys2Proof.Machine.execCop0CoNop24 s
  | .cop0CoNop25 => Sys2Proof.Machine.execCop0CoNop25 s
  | .cop0CoNop26 => Sys2Proof.Machine.execCop0CoNop26 s
  | .cop0CoNop27 => Sys2Proof.Machine.execCop0CoNop27 s
  | .cop0CoNop28 => Sys2Proof.Machine.execCop0CoNop28 s
  | .cop0CoNop29 => Sys2Proof.Machine.execCop0CoNop29 s
  | .cop0CoNop2a => Sys2Proof.Machine.execCop0CoNop2a s
  | .cop0CoNop2b => Sys2Proof.Machine.execCop0CoNop2b s
  | .cop0CoNop2c => Sys2Proof.Machine.execCop0CoNop2c s
  | .cop0CoNop2d => Sys2Proof.Machine.execCop0CoNop2d s
  | .cop0CoNop2e => Sys2Proof.Machine.execCop0CoNop2e s
  | .cop0CoNop2f => Sys2Proof.Machine.execCop0CoNop2f s
  | .cop0CoNop30 => Sys2Proof.Machine.execCop0CoNop30 s
  | .cop0CoNop31 => Sys2Proof.Machine.execCop0CoNop31 s
  | .cop0CoNop32 => Sys2Proof.Machine.execCop0CoNop32 s
  | .cop0CoNop33 => Sys2Proof.Machine.execCop0CoNop33 s
  | .cop0CoNop34 => Sys2Proof.Machine.execCop0CoNop34 s
  | .cop0CoNop35 => Sys2Proof.Machine.execCop0CoNop35 s
  | .cop0CoNop36 => Sys2Proof.Machine.execCop0CoNop36 s
  | .cop0CoNop37 => Sys2Proof.Machine.execCop0CoNop37 s
  | .cop0CoNop38 => Sys2Proof.Machine.execCop0CoNop38 s
  | .cop0CoNop39 => Sys2Proof.Machine.execCop0CoNop39 s
  | .cop0CoNop3a => Sys2Proof.Machine.execCop0CoNop3a s
  | .cop0CoNop3b => Sys2Proof.Machine.execCop0CoNop3b s
  | .cop0CoNop3c => Sys2Proof.Machine.execCop0CoNop3c s
  | .cop0CoNop3d => Sys2Proof.Machine.execCop0CoNop3d s
  | .cop0CoNop3e => Sys2Proof.Machine.execCop0CoNop3e s
  | .cop0CoNop3f => Sys2Proof.Machine.execCop0CoNop3f s
  | .cop2NopRs01 => Sys2Proof.Machine.execCop2NopRs01 s
  | .cop2NopRs03 => Sys2Proof.Machine.execCop2NopRs03 s
  | .cop2NopRs05 => Sys2Proof.Machine.execCop2NopRs05 s
  | .cop2NopRs07 => Sys2Proof.Machine.execCop2NopRs07 s
  | .cop2NopRs09 => Sys2Proof.Machine.execCop2NopRs09 s
  | .cop2NopRs10 => Sys2Proof.Machine.execCop2NopRs10 s
  | .cop2NopRs11 => Sys2Proof.Machine.execCop2NopRs11 s
  | .cop2NopRs12 => Sys2Proof.Machine.execCop2NopRs12 s
  | .cop2NopRs13 => Sys2Proof.Machine.execCop2NopRs13 s
  | .cop2NopRs14 => Sys2Proof.Machine.execCop2NopRs14 s
  | .cop2NopRs15 => Sys2Proof.Machine.execCop2NopRs15 s

end Sys2Proof.Machine
end

