-- ==== Sys2Proof/Machine/Fetch.lean ====
section
/-!
DEFINITION. Instruction fetch through the direct-mapped instruction cache (spec/20_memory.md R80 to R85), and where a word
must stand for the next step to fetch it.
-/

namespace Sys2Proof.Machine

/-- Whether a word can be fetched at a physical address: `FETCHABLE` is the platform's RAM and ROM, never the scratchpad (R85, D17). -/
def State.fetchable (s : State) (p : Word) : Bool := !inScratch p && (s.regionOf p 4).isSome

/-- `IFetch32(p)`: a little-endian word with no side effects, refused outside `FETCHABLE` (R85). -/
def iFetch32 (p : Word) (s : State) : Except Refusal Word :=
  if s.fetchable p then .ok (s.mem.readLE p 4) else .error .fetchNotFetchable

/-- Whether a fetch at `pc` is cached: KUSEG or KSEG0 with BIU.IS1 = 1 (R81). -/
def State.fetchCached (s : State) (pc : Word) : Bool := pc.ult 0xA0000000 && s.biuIs1

/-- The first address of the line of `pc`, `b = pc & 0xFFFFFFF0` (R80). -/
def lineBase (pc : Word) : Word := pc &&& 0xFFFFFFF0

/-- The address of word `k` of the line of `pc`, `b | (k << 2)`, which is also the TV word of a valid entry (R43, R80). -/
def lineWord (pc : Word) (k : BitVec 2) : Word := lineBase pc ||| (k.setWidth 32 <<< 2)

/-- The tags a refill writes first: all four entries of the line, marked invalid (R80, R83). -/
def markLine (pc : Word) (c : ICache) : ICache :=
  [0#2, 1#2, 2#2, 3#2].foldl
    (fun c k => c.write (icLineIndex pc k) { c.read (icLineIndex pc k) with tv := lineWord pc k ||| 0x2 }) c

/-- The words a refill loads, in order (R80). -/
def loadLine (pc : Word) (s : State) : List (BitVec 2) → ICache → Except Refusal ICache
  | [], c => .ok c
  | k :: ks, c =>
    match iFetch32 (phys (lineWord pc k)) s with
    | .error r => .error r
    | .ok w => loadLine pc s ks (c.write (icLineIndex pc k) ⟨lineWord pc k, w⟩)

/-- The words of the line of `pc` from `pc` to the line's end, `pc[3:2]..3` (R80, R83). -/
def wordsToLoad (pc : Word) : List (BitVec 2) := [0#2, 1#2, 2#2, 3#2].filter (fun k => (pc.extractLsb' 2 2).ule k)

/-- The cache after a refill for `pc` (R80, R83). -/
def refill (pc : Word) (s : State) : Except Refusal ICache := loadLine pc s (wordsToLoad pc) (markLine pc s.ic)

/-- `IFetch(pc)`: a hit needs `tv = pc`; a miss outside the cached segments, or with the cache disabled, reads the word and
changes no entry; another miss refills (R80). -/
def iFetch (s : State) : Except Refusal (Word × State) :=
  let e := s.ic.read (icIndex s.pc)
  if e.tv = s.pc then .ok (e.data, s)
  else if s.fetchCached s.pc then
    match refill s.pc s with
    | .error r => .error r
    | .ok c => .ok ((c.read (icIndex s.pc)).data, { s with ic := c })
  else
    match iFetch32 (phys s.pc) s with
    | .error r => .error r
    | .ok w => .ok (w, s)

/-- Whether the fetch address is in error: misaligned, or a kernel-segment address in user mode (R133). -/
def State.fetchFault (s : State) : Bool := s.pc.extractLsb' 0 2 != 0 || s.ksegFault s.pc

/-- The state with `w` standing where the next step fetches: in memory at the physical pc, and in the cache entry that would
hit. A region is added only where the platform's map does not already hold the words the fetch reads. -/
def State.placeFetchWord (s : State) (w : Word) : State :=
  let p := phys s.pc
  let len := if s.fetchCached s.pc then 16 - p.toNat % 16 else 4
  let e := s.ic.read (icIndex s.pc)
  { s with
    mem := s.mem.writeLE p 4 w
    ic := if e.tv = s.pc then s.ic.write (icIndex s.pc) { e with data := w } else s.ic
    params :=
      if (s.regionOf p len).isSome then s.params
      else { s.params with regions := ⟨p.toNat, len, .rom⟩ :: s.params.regions } }

end Sys2Proof.Machine
end

