-- ==== Sys2Proof/Machine/Cycle.lean ====
section
/-!
DEFINITION. One step of the core: the r0 re-zero, the fetch checks, the fetch, the interrupt check at the dispatch boundary,
decode and execution (spec/40_pipeline.md R130 to R145). The host's hooks of R132 and R149 have no architectural effect and
are left out, as those rules say.
-/

namespace Sys2Proof.Machine

/-- The time a step takes: the cycle counter advances by an amount the spec does not give (R46, R440), and the pending load's
read-absorption count is set (R26, R442). -/
def State.tick (s : State) : State :=
  { s with
    timestamp := s.timestamp + Config.stepCycles s.draws
    readAbsorb := if s.ld.isSome then Config.readAbsorb s.draws else 0
    draws := s.draws + 1 }

/-- A step's outcome with its time accounted for. -/
def tickOut (o : Out) : Out :=
  match o with
  | .next s => .next s.tick
  | .fault r => .fault r
  | .refused r => .refused r

/-- Whether an instruction word is a COP2 command (R317). -/
def isCop2Command (w : Word) : Bool := opField w == Op.cop2 && w.getLsbD 25

/-- Step 4: a pending interrupt pre-empts the fetched word, which gives Cause.CE (R141). An interrupted COP2 command is not
executed, or is refused, by `GTE_ON_INTERRUPT`. -/
def takeInterrupt (w : Word) (s : State) : Out :=
  if isCop2Command w && s.params.gteOnInterrupt == .refuse then .refused .gteInterrupted
  else .next (s.trapEntry .int (ceField w))

/-- Steps 4 to 7 for a fetched word. -/
def dispatch (w : Word) (s : State) : Out := if s.intPending then takeInterrupt w s else exec (decode w) s

/-- Steps 3 to 7: a fetch address error takes the word as 0 for Cause.CE (R133). -/
def fetchAndDispatch (s : State) : Out :=
  if s.fetchFault then .next (s.trapEntry (.adEL s.pc) 0)
  else
    match iFetch s with
    | .error r => .refused r
    | .ok (w, s') => dispatch w s'

/-- One whole step (R130). -/
def cycle (s : State) : Out := tickOut (fetchAndDispatch s.zeroR0)

end Sys2Proof.Machine
end

