-- ==== Sys2Proof/Machine/Step.lean ====
section
/-!
DEFINITION. The step of the machine (spec/40_pipeline.md R130), and a state whose next step runs a given word.
-/

namespace Sys2Proof.Machine

/-- One step of the core: one instruction boundary and the instruction that follows it (R130, R145). -/
def step (s : State) : Host.Outcome State Fault Refusal := cycle s

/-- The state with the instruction whose low `nbits` bits are `w` (all others zero) stored where `step` fetches next: it stands
for the loading of a program from outside the core (log entry 5). -/
def State.withFetchWord (s : State) (nbits w : Nat) : State := s.placeFetchWord (tableWord nbits w)

end Sys2Proof.Machine
end

