-- ==== Sys2Proof/OpcodeTable.lean ====
section
/-!
DEFINITION. The opcode table (spec/opcode_table.json) as data, written from the table and not from the decoder: for each row
the bits its mask fixes, their values, and the bits its operands take. The other bits are ignored by decode (R116).
-/

namespace Sys2Proof

/-- One row: a word `w` is the row's when `w &&& mask = pattern`; `operands` are the bits the operands are read from. -/
structure Row where
  mask : Word
  pattern : Word
  operands : Word
  deriving DecidableEq, Repr

/-- The row of an instruction. -/
def rowOf (i : Instr) : Row :=
  match i with
  | .sll .. => ⟨0xFC00003F, 0x00000000, 0x001FFFC0⟩
  | .srl .. => ⟨0xFC00003F, 0x00000002, 0x001FFFC0⟩
  | .sra .. => ⟨0xFC00003F, 0x00000003, 0x001FFFC0⟩
  | .sllv .. => ⟨0xFC00003F, 0x00000004, 0x03FFF800⟩
  | .srlv .. => ⟨0xFC00003F, 0x00000006, 0x03FFF800⟩
  | .srav .. => ⟨0xFC00003F, 0x00000007, 0x03FFF800⟩
  | .jr .. => ⟨0xFC00003F, 0x00000008, 0x03E00000⟩
  | .jalr .. => ⟨0xFC00003F, 0x00000009, 0x03E0F800⟩
  | .syscall .. => ⟨0xFC00003F, 0x0000000C, 0x03FFFFC0⟩
  | .brk .. => ⟨0xFC00003F, 0x0000000D, 0x03FFFFC0⟩
  | .mfhi .. => ⟨0xFC00003F, 0x00000010, 0x0000F800⟩
  | .mthi .. => ⟨0xFC00003F, 0x00000011, 0x03E00000⟩
  | .mflo .. => ⟨0xFC00003F, 0x00000012, 0x0000F800⟩
  | .mtlo .. => ⟨0xFC00003F, 0x00000013, 0x03E00000⟩
  | .mult .. => ⟨0xFC00003F, 0x00000018, 0x03FF0000⟩
  | .multu .. => ⟨0xFC00003F, 0x00000019, 0x03FF0000⟩
  | .div .. => ⟨0xFC00003F, 0x0000001A, 0x03FF0000⟩
  | .divu .. => ⟨0xFC00003F, 0x0000001B, 0x03FF0000⟩
  | .add .. => ⟨0xFC00003F, 0x00000020, 0x03FFF800⟩
  | .addu .. => ⟨0xFC00003F, 0x00000021, 0x03FFF800⟩
  | .sub .. => ⟨0xFC00003F, 0x00000022, 0x03FFF800⟩
  | .subu .. => ⟨0xFC00003F, 0x00000023, 0x03FFF800⟩
  | .and .. => ⟨0xFC00003F, 0x00000024, 0x03FFF800⟩
  | .or .. => ⟨0xFC00003F, 0x00000025, 0x03FFF800⟩
  | .xor .. => ⟨0xFC00003F, 0x00000026, 0x03FFF800⟩
  | .nor .. => ⟨0xFC00003F, 0x00000027, 0x03FFF800⟩
  | .slt .. => ⟨0xFC00003F, 0x0000002A, 0x03FFF800⟩
  | .sltu .. => ⟨0xFC00003F, 0x0000002B, 0x03FFF800⟩
  | .bltz .. => ⟨0xFC1F0000, 0x04000000, 0x03E0FFFF⟩
  | .bgez .. => ⟨0xFC1F0000, 0x04010000, 0x03E0FFFF⟩
  | .bltzAliasRt2 .. => ⟨0xFC1F0000, 0x04020000, 0x03E0FFFF⟩
  | .bgezAliasRt3 .. => ⟨0xFC1F0000, 0x04030000, 0x03E0FFFF⟩
  | .bltzAliasRt4 .. => ⟨0xFC1F0000, 0x04040000, 0x03E0FFFF⟩
  | .bgezAliasRt5 .. => ⟨0xFC1F0000, 0x04050000, 0x03E0FFFF⟩
  | .bltzAliasRt6 .. => ⟨0xFC1F0000, 0x04060000, 0x03E0FFFF⟩
  | .bgezAliasRt7 .. => ⟨0xFC1F0000, 0x04070000, 0x03E0FFFF⟩
  | .bltzAliasRt8 .. => ⟨0xFC1F0000, 0x04080000, 0x03E0FFFF⟩
  | .bgezAliasRt9 .. => ⟨0xFC1F0000, 0x04090000, 0x03E0FFFF⟩
  | .bltzAliasRt10 .. => ⟨0xFC1F0000, 0x040A0000, 0x03E0FFFF⟩
  | .bgezAliasRt11 .. => ⟨0xFC1F0000, 0x040B0000, 0x03E0FFFF⟩
  | .bltzAliasRt12 .. => ⟨0xFC1F0000, 0x040C0000, 0x03E0FFFF⟩
  | .bgezAliasRt13 .. => ⟨0xFC1F0000, 0x040D0000, 0x03E0FFFF⟩
  | .bltzAliasRt14 .. => ⟨0xFC1F0000, 0x040E0000, 0x03E0FFFF⟩
  | .bgezAliasRt15 .. => ⟨0xFC1F0000, 0x040F0000, 0x03E0FFFF⟩
  | .bltzal .. => ⟨0xFC1F0000, 0x04100000, 0x03E0FFFF⟩
  | .bgezal .. => ⟨0xFC1F0000, 0x04110000, 0x03E0FFFF⟩
  | .bltzAliasRt18 .. => ⟨0xFC1F0000, 0x04120000, 0x03E0FFFF⟩
  | .bgezAliasRt19 .. => ⟨0xFC1F0000, 0x04130000, 0x03E0FFFF⟩
  | .bltzAliasRt20 .. => ⟨0xFC1F0000, 0x04140000, 0x03E0FFFF⟩
  | .bgezAliasRt21 .. => ⟨0xFC1F0000, 0x04150000, 0x03E0FFFF⟩
  | .bltzAliasRt22 .. => ⟨0xFC1F0000, 0x04160000, 0x03E0FFFF⟩
  | .bgezAliasRt23 .. => ⟨0xFC1F0000, 0x04170000, 0x03E0FFFF⟩
  | .bltzAliasRt24 .. => ⟨0xFC1F0000, 0x04180000, 0x03E0FFFF⟩
  | .bgezAliasRt25 .. => ⟨0xFC1F0000, 0x04190000, 0x03E0FFFF⟩
  | .bltzAliasRt26 .. => ⟨0xFC1F0000, 0x041A0000, 0x03E0FFFF⟩
  | .bgezAliasRt27 .. => ⟨0xFC1F0000, 0x041B0000, 0x03E0FFFF⟩
  | .bltzAliasRt28 .. => ⟨0xFC1F0000, 0x041C0000, 0x03E0FFFF⟩
  | .bgezAliasRt29 .. => ⟨0xFC1F0000, 0x041D0000, 0x03E0FFFF⟩
  | .bltzAliasRt30 .. => ⟨0xFC1F0000, 0x041E0000, 0x03E0FFFF⟩
  | .bgezAliasRt31 .. => ⟨0xFC1F0000, 0x041F0000, 0x03E0FFFF⟩
  | .j .. => ⟨0xFC000000, 0x08000000, 0x03FFFFFF⟩
  | .jal .. => ⟨0xFC000000, 0x0C000000, 0x03FFFFFF⟩
  | .beq .. => ⟨0xFC000000, 0x10000000, 0x03FFFFFF⟩
  | .bne .. => ⟨0xFC000000, 0x14000000, 0x03FFFFFF⟩
  | .blez .. => ⟨0xFC000000, 0x18000000, 0x03E0FFFF⟩
  | .bgtz .. => ⟨0xFC000000, 0x1C000000, 0x03E0FFFF⟩
  | .addi .. => ⟨0xFC000000, 0x20000000, 0x03FFFFFF⟩
  | .addiu .. => ⟨0xFC000000, 0x24000000, 0x03FFFFFF⟩
  | .slti .. => ⟨0xFC000000, 0x28000000, 0x03FFFFFF⟩
  | .sltiu .. => ⟨0xFC000000, 0x2C000000, 0x03FFFFFF⟩
  | .andi .. => ⟨0xFC000000, 0x30000000, 0x03FFFFFF⟩
  | .ori .. => ⟨0xFC000000, 0x34000000, 0x03FFFFFF⟩
  | .xori .. => ⟨0xFC000000, 0x38000000, 0x03FFFFFF⟩
  | .lui .. => ⟨0xFC000000, 0x3C000000, 0x001FFFFF⟩
  | .cop1 .. => ⟨0xFC000000, 0x44000000, 0x03FFFFFF⟩
  | .cop3 .. => ⟨0xFC000000, 0x4C000000, 0x03FFFFFF⟩
  | .lb .. => ⟨0xFC000000, 0x80000000, 0x03FFFFFF⟩
  | .lh .. => ⟨0xFC000000, 0x84000000, 0x03FFFFFF⟩
  | .lwl .. => ⟨0xFC000000, 0x88000000, 0x03FFFFFF⟩
  | .lw .. => ⟨0xFC000000, 0x8C000000, 0x03FFFFFF⟩
  | .lbu .. => ⟨0xFC000000, 0x90000000, 0x03FFFFFF⟩
  | .lhu .. => ⟨0xFC000000, 0x94000000, 0x03FFFFFF⟩
  | .lwr .. => ⟨0xFC000000, 0x98000000, 0x03FFFFFF⟩
  | .sb .. => ⟨0xFC000000, 0xA0000000, 0x03FFFFFF⟩
  | .sh .. => ⟨0xFC000000, 0xA4000000, 0x03FFFFFF⟩
  | .swl .. => ⟨0xFC000000, 0xA8000000, 0x03FFFFFF⟩
  | .sw .. => ⟨0xFC000000, 0xAC000000, 0x03FFFFFF⟩
  | .swr .. => ⟨0xFC000000, 0xB8000000, 0x03FFFFFF⟩
  | .lwc0 .. => ⟨0xFC000000, 0xC0000000, 0x03FFFFFF⟩
  | .lwc1 .. => ⟨0xFC000000, 0xC4000000, 0x03FFFFFF⟩
  | .lwc2 .. => ⟨0xFC000000, 0xC8000000, 0x03FFFFFF⟩
  | .lwc3 .. => ⟨0xFC000000, 0xCC000000, 0x03FFFFFF⟩
  | .swc0 .. => ⟨0xFC000000, 0xE0000000, 0x03FFFFFF⟩
  | .swc1 .. => ⟨0xFC000000, 0xE4000000, 0x03FFFFFF⟩
  | .swc2 .. => ⟨0xFC000000, 0xE8000000, 0x03FFFFFF⟩
  | .swc3 .. => ⟨0xFC000000, 0xEC000000, 0x03FFFFFF⟩
  | .mfc0 .. => ⟨0xFFE00000, 0x40000000, 0x001FF800⟩
  | .cfc0 .. => ⟨0xFFE00000, 0x40400000, 0x001FF800⟩
  | .mtc0 .. => ⟨0xFFE00000, 0x40800000, 0x001FF800⟩
  | .ctc0 .. => ⟨0xFFE00000, 0x40C00000, 0x001FF800⟩
  | .bc0f .. => ⟨0xFFE10000, 0x41000000, 0x0000FFFF⟩
  | .bc0t .. => ⟨0xFFE10000, 0x41010000, 0x0000FFFF⟩
  | .mfc2 .. => ⟨0xFFE00000, 0x48000000, 0x001FF800⟩
  | .cfc2 .. => ⟨0xFFE00000, 0x48400000, 0x001FF800⟩
  | .mtc2 .. => ⟨0xFFE00000, 0x48800000, 0x001FF800⟩
  | .ctc2 .. => ⟨0xFFE00000, 0x48C00000, 0x001FF800⟩
  | .bc2f .. => ⟨0xFFE10000, 0x49000000, 0x0000FFFF⟩
  | .bc2t .. => ⟨0xFFE10000, 0x49010000, 0x0000FFFF⟩
  | .cop2 .. => ⟨0xFE000000, 0x4A000000, 0x01FFFFFF⟩
  | .reservedSpecial01 => ⟨0xFC00003F, 0x00000001, 0x00000000⟩
  | .reservedSpecial05 => ⟨0xFC00003F, 0x00000005, 0x00000000⟩
  | .reservedSpecial0a => ⟨0xFC00003F, 0x0000000A, 0x00000000⟩
  | .reservedSpecial0b => ⟨0xFC00003F, 0x0000000B, 0x00000000⟩
  | .reservedSpecial0e => ⟨0xFC00003F, 0x0000000E, 0x00000000⟩
  | .reservedSpecial0f => ⟨0xFC00003F, 0x0000000F, 0x00000000⟩
  | .reservedSpecial14 => ⟨0xFC00003F, 0x00000014, 0x00000000⟩
  | .reservedSpecial15 => ⟨0xFC00003F, 0x00000015, 0x00000000⟩
  | .reservedSpecial16 => ⟨0xFC00003F, 0x00000016, 0x00000000⟩
  | .reservedSpecial17 => ⟨0xFC00003F, 0x00000017, 0x00000000⟩
  | .reservedSpecial1c => ⟨0xFC00003F, 0x0000001C, 0x00000000⟩
  | .reservedSpecial1d => ⟨0xFC00003F, 0x0000001D, 0x00000000⟩
  | .reservedSpecial1e => ⟨0xFC00003F, 0x0000001E, 0x00000000⟩
  | .reservedSpecial1f => ⟨0xFC00003F, 0x0000001F, 0x00000000⟩
  | .reservedSpecial28 => ⟨0xFC00003F, 0x00000028, 0x00000000⟩
  | .reservedSpecial29 => ⟨0xFC00003F, 0x00000029, 0x00000000⟩
  | .reservedSpecial2c => ⟨0xFC00003F, 0x0000002C, 0x00000000⟩
  | .reservedSpecial2d => ⟨0xFC00003F, 0x0000002D, 0x00000000⟩
  | .reservedSpecial2e => ⟨0xFC00003F, 0x0000002E, 0x00000000⟩
  | .reservedSpecial2f => ⟨0xFC00003F, 0x0000002F, 0x00000000⟩
  | .reservedSpecial30 => ⟨0xFC00003F, 0x00000030, 0x00000000⟩
  | .reservedSpecial31 => ⟨0xFC00003F, 0x00000031, 0x00000000⟩
  | .reservedSpecial32 => ⟨0xFC00003F, 0x00000032, 0x00000000⟩
  | .reservedSpecial33 => ⟨0xFC00003F, 0x00000033, 0x00000000⟩
  | .reservedSpecial34 => ⟨0xFC00003F, 0x00000034, 0x00000000⟩
  | .reservedSpecial35 => ⟨0xFC00003F, 0x00000035, 0x00000000⟩
  | .reservedSpecial36 => ⟨0xFC00003F, 0x00000036, 0x00000000⟩
  | .reservedSpecial37 => ⟨0xFC00003F, 0x00000037, 0x00000000⟩
  | .reservedSpecial38 => ⟨0xFC00003F, 0x00000038, 0x00000000⟩
  | .reservedSpecial39 => ⟨0xFC00003F, 0x00000039, 0x00000000⟩
  | .reservedSpecial3a => ⟨0xFC00003F, 0x0000003A, 0x00000000⟩
  | .reservedSpecial3b => ⟨0xFC00003F, 0x0000003B, 0x00000000⟩
  | .reservedSpecial3c => ⟨0xFC00003F, 0x0000003C, 0x00000000⟩
  | .reservedSpecial3d => ⟨0xFC00003F, 0x0000003D, 0x00000000⟩
  | .reservedSpecial3e => ⟨0xFC00003F, 0x0000003E, 0x00000000⟩
  | .reservedSpecial3f => ⟨0xFC00003F, 0x0000003F, 0x00000000⟩
  | .reservedOp14 => ⟨0xFC000000, 0x50000000, 0x00000000⟩
  | .reservedOp15 => ⟨0xFC000000, 0x54000000, 0x00000000⟩
  | .reservedOp16 => ⟨0xFC000000, 0x58000000, 0x00000000⟩
  | .reservedOp17 => ⟨0xFC000000, 0x5C000000, 0x00000000⟩
  | .reservedOp18 => ⟨0xFC000000, 0x60000000, 0x00000000⟩
  | .reservedOp19 => ⟨0xFC000000, 0x64000000, 0x00000000⟩
  | .reservedOp1a => ⟨0xFC000000, 0x68000000, 0x00000000⟩
  | .reservedOp1b => ⟨0xFC000000, 0x6C000000, 0x00000000⟩
  | .reservedOp1c => ⟨0xFC000000, 0x70000000, 0x00000000⟩
  | .reservedOp1d => ⟨0xFC000000, 0x74000000, 0x00000000⟩
  | .reservedOp1e => ⟨0xFC000000, 0x78000000, 0x00000000⟩
  | .reservedOp1f => ⟨0xFC000000, 0x7C000000, 0x00000000⟩
  | .reservedOp27 => ⟨0xFC000000, 0x9C000000, 0x00000000⟩
  | .reservedOp2c => ⟨0xFC000000, 0xB0000000, 0x00000000⟩
  | .reservedOp2d => ⟨0xFC000000, 0xB4000000, 0x00000000⟩
  | .reservedOp2f => ⟨0xFC000000, 0xBC000000, 0x00000000⟩
  | .reservedOp34 => ⟨0xFC000000, 0xD0000000, 0x00000000⟩
  | .reservedOp35 => ⟨0xFC000000, 0xD4000000, 0x00000000⟩
  | .reservedOp36 => ⟨0xFC000000, 0xD8000000, 0x00000000⟩
  | .reservedOp37 => ⟨0xFC000000, 0xDC000000, 0x00000000⟩
  | .reservedOp3c => ⟨0xFC000000, 0xF0000000, 0x00000000⟩
  | .reservedOp3d => ⟨0xFC000000, 0xF4000000, 0x00000000⟩
  | .reservedOp3e => ⟨0xFC000000, 0xF8000000, 0x00000000⟩
  | .reservedOp3f => ⟨0xFC000000, 0xFC000000, 0x00000000⟩
  | .cop0NopRs01 => ⟨0xFFE00000, 0x40200000, 0x00000000⟩
  | .cop0NopRs03 => ⟨0xFFE00000, 0x40600000, 0x00000000⟩
  | .cop0NopRs05 => ⟨0xFFE00000, 0x40A00000, 0x00000000⟩
  | .cop0NopRs07 => ⟨0xFFE00000, 0x40E00000, 0x00000000⟩
  | .cop0NopRs09 => ⟨0xFFE00000, 0x41200000, 0x00000000⟩
  | .cop0NopRs10 => ⟨0xFFE00000, 0x41400000, 0x00000000⟩
  | .cop0NopRs11 => ⟨0xFFE00000, 0x41600000, 0x00000000⟩
  | .cop0NopRs12 => ⟨0xFFE00000, 0x41800000, 0x00000000⟩
  | .cop0NopRs13 => ⟨0xFFE00000, 0x41A00000, 0x00000000⟩
  | .cop0NopRs14 => ⟨0xFFE00000, 0x41C00000, 0x00000000⟩
  | .cop0NopRs15 => ⟨0xFFE00000, 0x41E00000, 0x00000000⟩
  | .cop0CoNop00 => ⟨0xFE00003F, 0x42000000, 0x00000000⟩
  | .tlbr => ⟨0xFE00003F, 0x42000001, 0x00000000⟩
  | .tlbwi => ⟨0xFE00003F, 0x42000002, 0x00000000⟩
  | .cop0CoNop03 => ⟨0xFE00003F, 0x42000003, 0x00000000⟩
  | .cop0CoNop04 => ⟨0xFE00003F, 0x42000004, 0x00000000⟩
  | .cop0CoNop05 => ⟨0xFE00003F, 0x42000005, 0x00000000⟩
  | .tlbwr => ⟨0xFE00003F, 0x42000006, 0x00000000⟩
  | .cop0CoNop07 => ⟨0xFE00003F, 0x42000007, 0x00000000⟩
  | .tlbp => ⟨0xFE00003F, 0x42000008, 0x00000000⟩
  | .cop0CoNop09 => ⟨0xFE00003F, 0x42000009, 0x00000000⟩
  | .cop0CoNop0a => ⟨0xFE00003F, 0x4200000A, 0x00000000⟩
  | .cop0CoNop0b => ⟨0xFE00003F, 0x4200000B, 0x00000000⟩
  | .cop0CoNop0c => ⟨0xFE00003F, 0x4200000C, 0x00000000⟩
  | .cop0CoNop0d => ⟨0xFE00003F, 0x4200000D, 0x00000000⟩
  | .cop0CoNop0e => ⟨0xFE00003F, 0x4200000E, 0x00000000⟩
  | .cop0CoNop0f => ⟨0xFE00003F, 0x4200000F, 0x00000000⟩
  | .rfe => ⟨0xFE00003F, 0x42000010, 0x00000000⟩
  | .cop0CoNop11 => ⟨0xFE00003F, 0x42000011, 0x00000000⟩
  | .cop0CoNop12 => ⟨0xFE00003F, 0x42000012, 0x00000000⟩
  | .cop0CoNop13 => ⟨0xFE00003F, 0x42000013, 0x00000000⟩
  | .cop0CoNop14 => ⟨0xFE00003F, 0x42000014, 0x00000000⟩
  | .cop0CoNop15 => ⟨0xFE00003F, 0x42000015, 0x00000000⟩
  | .cop0CoNop16 => ⟨0xFE00003F, 0x42000016, 0x00000000⟩
  | .cop0CoNop17 => ⟨0xFE00003F, 0x42000017, 0x00000000⟩
  | .cop0CoNop18 => ⟨0xFE00003F, 0x42000018, 0x00000000⟩
  | .cop0CoNop19 => ⟨0xFE00003F, 0x42000019, 0x00000000⟩
  | .cop0CoNop1a => ⟨0xFE00003F, 0x4200001A, 0x00000000⟩
  | .cop0CoNop1b => ⟨0xFE00003F, 0x4200001B, 0x00000000⟩
  | .cop0CoNop1c => ⟨0xFE00003F, 0x4200001C, 0x00000000⟩
  | .cop0CoNop1d => ⟨0xFE00003F, 0x4200001D, 0x00000000⟩
  | .cop0CoNop1e => ⟨0xFE00003F, 0x4200001E, 0x00000000⟩
  | .cop0CoNop1f => ⟨0xFE00003F, 0x4200001F, 0x00000000⟩
  | .cop0CoNop20 => ⟨0xFE00003F, 0x42000020, 0x00000000⟩
  | .cop0CoNop21 => ⟨0xFE00003F, 0x42000021, 0x00000000⟩
  | .cop0CoNop22 => ⟨0xFE00003F, 0x42000022, 0x00000000⟩
  | .cop0CoNop23 => ⟨0xFE00003F, 0x42000023, 0x00000000⟩
  | .cop0CoNop24 => ⟨0xFE00003F, 0x42000024, 0x00000000⟩
  | .cop0CoNop25 => ⟨0xFE00003F, 0x42000025, 0x00000000⟩
  | .cop0CoNop26 => ⟨0xFE00003F, 0x42000026, 0x00000000⟩
  | .cop0CoNop27 => ⟨0xFE00003F, 0x42000027, 0x00000000⟩
  | .cop0CoNop28 => ⟨0xFE00003F, 0x42000028, 0x00000000⟩
  | .cop0CoNop29 => ⟨0xFE00003F, 0x42000029, 0x00000000⟩
  | .cop0CoNop2a => ⟨0xFE00003F, 0x4200002A, 0x00000000⟩
  | .cop0CoNop2b => ⟨0xFE00003F, 0x4200002B, 0x00000000⟩
  | .cop0CoNop2c => ⟨0xFE00003F, 0x4200002C, 0x00000000⟩
  | .cop0CoNop2d => ⟨0xFE00003F, 0x4200002D, 0x00000000⟩
  | .cop0CoNop2e => ⟨0xFE00003F, 0x4200002E, 0x00000000⟩
  | .cop0CoNop2f => ⟨0xFE00003F, 0x4200002F, 0x00000000⟩
  | .cop0CoNop30 => ⟨0xFE00003F, 0x42000030, 0x00000000⟩
  | .cop0CoNop31 => ⟨0xFE00003F, 0x42000031, 0x00000000⟩
  | .cop0CoNop32 => ⟨0xFE00003F, 0x42000032, 0x00000000⟩
  | .cop0CoNop33 => ⟨0xFE00003F, 0x42000033, 0x00000000⟩
  | .cop0CoNop34 => ⟨0xFE00003F, 0x42000034, 0x00000000⟩
  | .cop0CoNop35 => ⟨0xFE00003F, 0x42000035, 0x00000000⟩
  | .cop0CoNop36 => ⟨0xFE00003F, 0x42000036, 0x00000000⟩
  | .cop0CoNop37 => ⟨0xFE00003F, 0x42000037, 0x00000000⟩
  | .cop0CoNop38 => ⟨0xFE00003F, 0x42000038, 0x00000000⟩
  | .cop0CoNop39 => ⟨0xFE00003F, 0x42000039, 0x00000000⟩
  | .cop0CoNop3a => ⟨0xFE00003F, 0x4200003A, 0x00000000⟩
  | .cop0CoNop3b => ⟨0xFE00003F, 0x4200003B, 0x00000000⟩
  | .cop0CoNop3c => ⟨0xFE00003F, 0x4200003C, 0x00000000⟩
  | .cop0CoNop3d => ⟨0xFE00003F, 0x4200003D, 0x00000000⟩
  | .cop0CoNop3e => ⟨0xFE00003F, 0x4200003E, 0x00000000⟩
  | .cop0CoNop3f => ⟨0xFE00003F, 0x4200003F, 0x00000000⟩
  | .cop2NopRs01 => ⟨0xFFE00000, 0x48200000, 0x00000000⟩
  | .cop2NopRs03 => ⟨0xFFE00000, 0x48600000, 0x00000000⟩
  | .cop2NopRs05 => ⟨0xFFE00000, 0x48A00000, 0x00000000⟩
  | .cop2NopRs07 => ⟨0xFFE00000, 0x48E00000, 0x00000000⟩
  | .cop2NopRs09 => ⟨0xFFE00000, 0x49200000, 0x00000000⟩
  | .cop2NopRs10 => ⟨0xFFE00000, 0x49400000, 0x00000000⟩
  | .cop2NopRs11 => ⟨0xFFE00000, 0x49600000, 0x00000000⟩
  | .cop2NopRs12 => ⟨0xFFE00000, 0x49800000, 0x00000000⟩
  | .cop2NopRs13 => ⟨0xFFE00000, 0x49A00000, 0x00000000⟩
  | .cop2NopRs14 => ⟨0xFFE00000, 0x49C00000, 0x00000000⟩
  | .cop2NopRs15 => ⟨0xFFE00000, 0x49E00000, 0x00000000⟩

/-- The bits of an instruction's word that decode reads: the row's mask and its operands (R116). -/
def usedBits (i : Instr) : Word := (rowOf i).mask ||| (rowOf i).operands

end Sys2Proof
end

