-- ==== Sys2Proof/Machine/Ppu.lean ====
section
/-!
DEFINITION. The companion block: the PPU scanline engine, to the extent the source settles it (spec/50_ppu_scanline.md R340 to
R361). It shares no state with the core. Timing values, register meanings and the external tables are arguments (`PpuEnv`).
-/

namespace Sys2Proof.Machine

/-! ## Pixel priority resolution (R350, R351) -/

/-- `key(a) <= key(b)`: by OAM index, or by x-position and then OAM index (R351). -/
def spriteKeyLe (prio : SpritePriority) (a b : SpritePixel) : Bool :=
  match prio with
  | .oamIndex => decide (a.oamIndex ≤ b.oamIndex)
  | .xPosition => decide (a.x < b.x) || (a.x == b.x && decide (a.oamIndex ≤ b.oamIndex))

/-- The candidate with the least key (R351 rule (a)). -/
def spriteWinner (prio : SpritePriority) : List SpritePixel → Option SpritePixel
  | [] => none
  | c :: cs =>
    match spriteWinner prio cs with
    | none => some c
    | some w => if spriteKeyLe prio c w then some c else some w

/-- The palette lookup an output pixel makes (R351): transparent sprite pixels dropped (c), the winner chosen (a), then its
background-priority bit tested against an opaque background (b). -/
def resolveLookup (prio : SpritePriority) (bg : BgPixel) (cands : List SpritePixel) : PpuLayer × Nat × BitVec 2 :=
  match spriteWinner prio (cands.filter (fun c => c.ci != 0)) with
  | none => (bg.layer, bg.palette, bg.ci)
  | some w => if w.bgp && bg.ci != 0 then (bg.layer, bg.palette, bg.ci) else (.sprite, w.palette, w.ci)

/-- The output pixel: the external palette tables applied to the lookup (R352). -/
def resolve (env : PpuEnv) (prio : SpritePriority) (bg : BgPixel) (cands : List SpritePixel) : Nat :=
  let l := resolveLookup prio bg cands
  env.paletteLookup l.1 l.2.1 l.2.2

/-! ## OAM search (R349) -/

/-- Whether a sprite's vertical extent covers line `ly`. -/
def spriteCovers (ly height : Nat) (o : OamSprite) : Bool := decide (o.y ≤ (ly : Int)) && decide ((ly : Int) < o.y + height)

/-- The OAM offset of the entry at an index. DESIGN CHOICE (log entry 20): the entries follow one another from OAM address 0; their
size is an argument. -/
def oamOffsetOf (env : PpuEnv) (i : Nat) : Nat := i * env.oamEntrySize

/-- The sprite that the bytes of OAM entry `i` describe (R340). -/
def oamSprite (env : PpuEnv) (i : Nat) : OamSprite :=
  env.oamDecode ((List.range env.oamEntrySize).map (fun k => env.oamRead (oamOffsetOf env i + k)))

/-- The sprite height, 8 or 16, set by a display-control bit. -/
def spriteHeight (env : PpuEnv) (p : Ppu) : Nat := if env.tallSprites p.writes then 16 else 8

/-- A sprite's tile line on scanline `ly`: the bytes of its row `ly - y` in VRAM. -/
def spriteTileLine (env : PpuEnv) (p : Ppu) (o : OamSprite) : PixelWord :=
  env.spriteLineDecode o ((env.spriteLineAddrs p.writes o ((p.ly : Int) - o.y).toNat).map env.vramRead)

/-- The list order: ascending x-position, ties by ascending OAM index (D34). -/
def spriteEntryLe (a b : SpriteEntry) : Bool :=
  decide (a.x < b.x) || (a.x == b.x && decide (a.priorityId ≤ b.priorityId))

/-- An entry put at its place in a sorted list. -/
def insertSprite (e : SpriteEntry) : List SpriteEntry → List SpriteEntry
  | [] => [e]
  | f :: fs => if spriteEntryLe e f then e :: f :: fs else f :: insertSprite e fs

/-- The list sorted by `spriteEntryLe`. -/
def sortSprites : List SpriteEntry → List SpriteEntry
  | [] => []
  | e :: es => insertSprite e (sortSprites es)

/-- The entry OAM search records for the sprite at OAM index `i` (R349), its tile line cached for this scanline: DESIGN CHOICE (log
entry 20), the line's bytes are read from VRAM at the search. -/
def spriteEntryOf (env : PpuEnv) (p : Ppu) (i : Nat) : SpriteEntry where
  x := (oamSprite env i).x
  oamOffset := oamOffsetOf env i
  tileLine := spriteTileLine env p (oamSprite env i)
  priorityId := i
  bgp := (oamSprite env i).bgp
  palette := (oamSprite env i).palette
  loaded := false

/-- The sprite list of a line: the first 10 sprites in OAM order that cover it, sorted (R349). -/
def oamSearch (env : PpuEnv) (p : Ppu) : List SpriteEntry :=
  let found := (List.range env.oamEntries).filter (fun i => spriteCovers p.ly (spriteHeight env p) (oamSprite env i))
  sortSprites ((found.take 10).map (spriteEntryOf env p))

/-! ## Tiles (R341, R344, R346) -/

/-- The width of a background or window tile. DESIGN CHOICE (log entry 21): the spec gives none (its 8-pixel span, R350, is a
sprite's). -/
def tileWidth : Nat := 8

/-- The tile fetched for a tile column of the scanline, from the window's tile map when `window`: the map entry's bytes, then the
bytes of the tile line they name, all through `VramRead` (R340). -/
def fetchTile (env : PpuEnv) (p : Ppu) (window : Bool) (column : Nat) : TileData :=
  let entry := (env.mapAddrs p.writes p.ly window column).map env.vramRead
  env.tileDecode entry ((env.tileAddrs p.writes p.ly window entry).map env.vramRead)

/-- A pixel word with its next `n` pixels gone. -/
def dropPixels (n : Nat) (w : PixelWord) : PixelWord := w >>> (2 * n)

/-- The next pixel of a pixel word. -/
def nextPixel (w : PixelWord) : BitVec 2 := w.extractLsb' 0 2

/-- `tileNext` loaded from the next tile column of the layer drawn, unless it already is (R341 "current + next"). -/
def loadNextTile (env : PpuEnv) (p : Ppu) : Ppu :=
  if p.nextLoaded then p
  else
    { p with
      tileNext := fetchTile env p p.winStarted p.nextColumn
      nextLoaded := true
      nextColumn := p.nextColumn + 1 }

/-- The tile registers made ready for a pixel: `tileNext` loaded, and moved into a `tileCur` that is used up. DESIGN CHOICE (log
entry 21): the cycle at which each is loaded. -/
def refillTiles (env : PpuEnv) (p : Ppu) : Ppu :=
  let q := loadNextTile env p
  if q.tileLeft = 0 then { q with tileCur := q.tileNext, tileLeft := tileWidth, nextLoaded := false } else q

/-- The background or window pixel at the cursor, by the register values at this cycle (R350, R355): the next pixel of `tileCur`, or
for a disabled background the pixel that stands for it. DESIGN CHOICE (log entry 22): that pixel is an argument, the tiles are
fetched and used up as before, and the background enable does not reach a started window. -/
def bgPixel (env : PpuEnv) (p : Ppu) : BgPixel :=
  if p.winStarted then ⟨.window, p.tileCur.palette, nextPixel p.tileCur.pixels⟩
  else if env.bgEnabled p.writes then ⟨.bg, p.tileCur.palette, nextPixel p.tileCur.pixels⟩
  else ⟨.bg, (env.bgOff p.writes).1, (env.bgOff p.writes).2⟩

/-! ## Transitions (R343 to R348) -/

/-- The mode number a state reports (R342). -/
def ppuModeNumber (m : PpuMode) : Nat :=
  match m with
  | .mode2Line0 => 2
  | .mode2LineN => 2
  | .mode3Start => 3
  | .mode3TileFetch => 3
  | .mode3LoadSprite => 3
  | .mode3StartWindow => 3
  | .endOfLine => 0
  | .vblank => 1

/-- A write disabled the window on this line, before its trigger: it is not drawn on the line (R353). DESIGN CHOICE (log entry 19):
R353's "for the remainder of that line" holds although a later write enables it again before the trigger. -/
def windowSuppressed (p : Ppu) : Bool :=
  match p.windowOffAt with
  | none => false
  | some c => decide (p.lineStart ≤ c)

/-- The window-enable conditions at this cycle, for a window not yet requested (R346, R353). -/
def windowOpen (env : PpuEnv) (p : Ppu) : Bool := env.windowEnabled p.writes && !p.winRequested && !windowSuppressed p

/-- Whether the cursor has just reached the window's trigger with the conditions holding at this cycle (R346). The decision is taken
once at each position: DESIGN CHOICE (log entry 19), at position 0 when tile-fetch is entered. -/
def windowDue (env : PpuEnv) (p : Ppu) : Bool := windowOpen env p && !p.winTested && p.xpos == env.windowX p.writes

/-- The cursor is at the x-position of an entry not yet loaded. -/
def spriteHere (p : Ppu) (e : SpriteEntry) : Bool := e.x == p.xpos && !e.loaded

/-- Whether the cursor is at the x-position of a sprite not yet loaded, sprites being enabled at this cycle (R345). -/
def spriteDue (env : PpuEnv) (p : Ppu) : Bool := env.spritesEnabled p.writes && p.sprites.any (spriteHere p)

/-- Where the current run of pixels ends: the next sprite to load, the window's trigger, or the right edge (R341); the sprites and
the window count only while they are enabled (R345, R346). -/
def runEnd (env : PpuEnv) (p : Ppu) : Nat :=
  let sprites :=
    if env.spritesEnabled p.writes then
      (p.sprites.filter (fun e => !e.loaded && decide (p.xpos ≤ e.x))).map SpriteEntry.x
    else []
  let first := if p.winTested then p.xpos + 1 else p.xpos
  let window := if windowOpen env p && decide (first ≤ env.windowX p.writes) then [env.windowX p.writes] else []
  (sprites ++ window).foldl min env.lineWidth

/-- `end_of_run` brought up to date while a line's pixels are output. -/
def refreshRun (env : PpuEnv) (p : Ppu) : Ppu :=
  if ppuModeNumber p.mode = 3 then { p with endOfRun := runEnd env p } else p

/-- mode-2 to mode-3-start (R343, R344): the sprite list is known, the first tiles are fetched. DESIGN CHOICES: the whole OAM search
samples OAM, `ly` and the height bit at the instant mode 2 ends (log entry 20); the first tiles are read at the start of the
prefetch, and `tileNext` is among them exactly when the scroll's sub-tile offset is not 0 (log entry 21). -/
def startPixelTransfer (env : PpuEnv) (p : Ppu) : Ppu :=
  let found := oamSearch env p
  let fine := env.scrollFine p.writes
  let q :=
    { p with
      mode := .mode3Start
      xpos := 0
      sprites := found
      sprAcc := found.map (fun _ => 0)
      tileCur := fetchTile env p false 0
      tileLeft := tileWidth
      nextLoaded := false
      nextColumn := 1
      winTested := false
      wait := env.tPrefetch fine }
  if fine = 0 then q else loadNextTile env q

/-- mode-3-start to mode-3-tile-fetch: the pixels left of the scroll position are discarded (R344). -/
def prefetched (env : PpuEnv) (p : Ppu) : Ppu :=
  let fine := env.scrollFine p.writes
  { p with
    mode := .mode3TileFetch
    tileCur := { p.tileCur with pixels := dropPixels fine p.tileCur.pixels }
    tileLeft := tileWidth - fine }

/-- mode-3-tile-fetch to mode-3-start-window (R346). -/
def startWindow (env : PpuEnv) (p : Ppu) : Ppu :=
  { p with mode := .mode3StartWindow, winRequested := true, wait := env.tWindow }

/-- The window's first tile is fetched and it draws to the end of the line: the fetch goes on from column 1 of its tile map (R346,
R353). -/
def windowStarted (env : PpuEnv) (p : Ppu) : Ppu :=
  { p with
    mode := .mode3TileFetch
    winStarted := true
    tileCur := fetchTile env p true 0
    tileLeft := tileWidth
    nextLoaded := false
    nextColumn := 1 }

/-- mode-3-tile-fetch to mode-3-load-sprite (R345); the window decision at this position is past (R346). -/
def startSprites (env : PpuEnv) (p : Ppu) : Ppu :=
  let n := (p.sprites.filter (spriteHere p)).length
  { p with mode := .mode3LoadSprite, winTested := true, wait := env.tSprite n p.xpos (env.scrollFine p.writes) }

/-- The entries at the cursor loaded into their accumulators, and back to tile-fetch (R345). -/
def spritesLoaded (p : Ppu) : Ppu :=
  { p with
    mode := .mode3TileFetch
    sprites := p.sprites.map (fun e => if spriteHere p e then { e with loaded := true } else e)
    sprAcc := List.zipWith (fun e acc => if spriteHere p e then e.tileLine else acc) p.sprites p.sprAcc }

/-- Sprites were disabled while their data was being loaded: no entry is loaded and no more time is spent (R345). -/
def spritesAbandoned (p : Ppu) : Ppu := { p with mode := .mode3TileFetch, wait := 0 }

/-- The right edge is reached (R347). -/
def endLine (p : Ppu) : Ppu :=
  { p with mode := .endOfLine, winRequested := false, winStarted := false, sprites := [], sprAcc := [] }

/-- The end of a line's time: the next line's mode 2, or vertical blank after the last visible line (R347). -/
def nextLine (env : PpuEnv) (p : Ppu) : Ppu :=
  { p with
    mode := if env.lastVisibleLine ≤ p.ly then .vblank else .mode2LineN
    lineStart := p.lineStart + env.tLine
    xpos := 0
    endOfRun := 0
    line := [] }

/-- The end of vertical blank (R347). -/
def nextFrame (env : PpuEnv) (p : Ppu) : Ppu :=
  { p with
    mode := .mode2Line0
    lineStart := p.lineStart + env.vblankLines * env.tLine
    xpos := 0
    endOfRun := 0
    line := [] }

/-- The transition the engine makes now, if any (R343 to R348). DESIGN CHOICES: where the window's trigger and an unloaded sprite
stand at the same position the window starts first, and a write that disables the window during its start ramp (requested, not
started) does not stop it (log entry 19); only tile-fetch, which alone moves the cursor, leads to the end of the line (log entry 12). -/
def ppuTransition (env : PpuEnv) (p : Ppu) : Option Ppu :=
  match p.mode with
  | .mode2Line0 =>
    if p.lineStart + env.tMode3Start (env.doubleSpeed p.writes) ≤ p.now then some (startPixelTransfer env p) else none
  | .mode2LineN =>
    if p.lineStart + env.tMode3Start (env.doubleSpeed p.writes) ≤ p.now then some (startPixelTransfer env p) else none
  | .mode3Start => if p.wait = 0 then some (prefetched env p) else none
  | .mode3TileFetch =>
    if env.lineWidth ≤ p.xpos then some (endLine p)
    else if windowDue env p then some (startWindow env p)
    else if spriteDue env p then some (startSprites env p)
    else none
  | .mode3LoadSprite =>
    if !env.spritesEnabled p.writes then some (spritesAbandoned p)
    else if p.wait = 0 then some (spritesLoaded p)
    else none
  | .mode3StartWindow => if p.wait = 0 then some (windowStarted env p) else none
  | .endOfLine => if p.lineStart + env.tLine ≤ p.now then some (nextLine env p) else none
  | .vblank => if p.lineStart + env.vblankLines * env.tLine ≤ p.now then some (nextFrame env p) else none

/-! ## One cycle -/

/-- Up to `fuel` transitions, made at once. -/
def ppuSettle (env : PpuEnv) : Nat → Ppu → Ppu
  | 0, p => p
  | fuel + 1, p =>
    match ppuTransition env p with
    | none => p
    | some p' => ppuSettle env fuel p'

/-- The candidate sprite pixels at the cursor, one per entry whose 8-pixel span covers it, each the next pixel of its accumulator; an
entry never loaded has the accumulator 0, which is transparent (R341, R350). DEDUCED (log entry 12): none while sprites are disabled. -/
def spritePixels (env : PpuEnv) (p : Ppu) : List SpritePixel :=
  if env.spritesEnabled p.writes then
    (p.sprites.zip p.sprAcc).filterMap (fun q =>
      if q.1.x ≤ p.xpos ∧ p.xpos < q.1.x + 8 then some ⟨q.1.priorityId, q.1.x, nextPixel q.2, q.1.bgp, q.1.palette⟩ else none)
  else []

/-- One pixel output: resolved, appended to the line buffer, the pixel words shifted and the cursor moved on. -/
def outputPixel (env : PpuEnv) (prio : SpritePriority) (p : Ppu) : Ppu :=
  let q := refillTiles env p
  { q with
    line := q.line ++ [resolve env prio (bgPixel env q) (spritePixels env q)]
    sprAcc := q.sprAcc.map (dropPixels 1)
    tileCur := { q.tileCur with pixels := dropPixels 1 q.tileCur.pixels }
    tileLeft := q.tileLeft - 1
    winTested := false
    xpos := q.xpos + 1 }

/-- What a cycle does in a state that has no transition to make: a ramp counts down, tile-fetch outputs a pixel. -/
def ppuSpend (env : PpuEnv) (prio : SpritePriority) (p : Ppu) : Ppu :=
  match p.mode with
  | .mode2Line0 => p
  | .mode2LineN => p
  | .mode3Start => { p with wait := p.wait - 1 }
  | .mode3TileFetch => if (ppuTransition env p).isSome then p else outputPixel env prio p
  | .mode3LoadSprite => { p with wait := p.wait - 1 }
  | .mode3StartWindow => { p with wait := p.wait - 1 }
  | .endOfLine => p
  | .vblank => p

/-- One cycle of the engine: the transitions due at this cycle, then the cycle itself. -/
def ppuCycle (env : PpuEnv) (prio : SpritePriority) (p : Ppu) : Ppu :=
  let q := refreshRun env (ppuSpend env prio (ppuSettle env 16 p))
  { q with now := p.now + 1, budget := p.budget - 1 }

/-- `n` cycles. -/
def ppuRun (env : PpuEnv) (prio : SpritePriority) : Nat → Ppu → Ppu
  | 0, p => p
  | n + 1, p => ppuRun env prio n (ppuCycle env prio p)

/-! ## The engine's calls -/

/-- `advance(target_cycle)` (R354): up to but not past the target; a target already past is refused. -/
def ppuAdvance (env : PpuEnv) (prio : SpritePriority) (target : Nat) (p : Ppu) : Except Refusal Ppu :=
  if target < p.now then .error .ppuTargetInPast
  else .ok (ppuRun env prio (target - p.now) { p with budget := target - p.now })

/-- A register write at the engine's current cycle: every later decision sees it (R355). A write that disables the window is
remembered with its cycle (R353), and the end of the run is determined again. -/
def ppuApplyWrite (env : PpuEnv) (reg value : Nat) (p : Ppu) : Ppu :=
  let regs := (reg, value) :: p.writes
  let off := env.windowEnabled p.writes && !env.windowEnabled regs
  refreshRun env { p with writes := regs, windowOffAt := if off then some p.now else p.windowOffAt }

/-- `on_register_write(register, value, at_cycle)` (R355): advance to the cycle, then apply the write. -/
def ppuRegisterWrite (env : PpuEnv) (prio : SpritePriority) (reg value atCycle : Nat) (p : Ppu) : Except Refusal Ppu :=
  match ppuAdvance env prio atCycle p with
  | .error r => .error r
  | .ok q => .ok (ppuApplyWrite env reg value q)

/-- The search behind `predict_cycles_until_xpos`, `c` cycles having passed. -/
def ppuPredictFrom (env : PpuEnv) (prio : SpritePriority) (targetX : Nat) : Nat → Nat → Ppu → Option Nat
  | 0, c, p => if targetX ≤ p.xpos then some c else none
  | fuel + 1, c, p =>
    if targetX ≤ p.xpos then some c else ppuPredictFrom env prio targetX fuel (c + 1) (ppuCycle env prio p)

/-- `predict_cycles_until_xpos(target_x)` (R356): the least number of cycles, up to `bound`, after which the cursor has reached
`target_x`; the state is left alone. -/
def ppuPredict (env : PpuEnv) (prio : SpritePriority) (targetX bound : Nat) (p : Ppu) : Option Nat :=
  ppuPredictFrom env prio targetX bound 0 p

end Sys2Proof.Machine
end

