-- ==== Sys2Proof/Machine/HostCalls.lean ====
section
/-!
DEFINITION. What the host does to the machine between steps, never within one (spec/40_pipeline.md R145 to R151,
60_exceptions.md R385, 20_memory.md R77, 50_ppu_scanline.md R354 to R356).
-/

namespace Sys2Proof.Machine

/-! ## Interrupt lines -/

/-- `assert_irq(line, asserted)` (R385): line n is Cause bit 10 + n; no other state changes. -/
def assertIrq (line : Nat) (asserted : Bool) (s : State) : Out :=
  if line ≤ 5 then
    .next { s with cause := (s.cause &&& ~~~(1#32 <<< (10 + line))) ||| bitIf asserted (10 + line) }
  else .refused .irqLineOutOfRange

/-! ## Register access -/

/-- The register an integer id names, by the parameter `REGISTER_IDS` (R49, R358). -/
def registerOf (id : Nat) (s : State) : Option HostReg := s.params.registerIds.lookup id

/-- The value of a register the host names; a coprocessor-0 number that holds no state reads as zero (log entry 7), and the video
block's numbers are shown modulo 2^32 (R358). -/
def hostRead (r : HostReg) (s : State) : Word :=
  match r with
  | .gpr n => s.reg n
  | .pc => s.pc
  | .hi => s.hi
  | .lo => s.lo
  | .cop0 n =>
    match cop0Read n s with
    | .value v => v
    | .absent => 0
    | .none => 0
  | .ppuLy => BitVec.ofNat 32 s.ppu.ly
  | .ppuXpos => BitVec.ofNat 32 s.ppu.xpos
  | .ppuMode => BitVec.ofNat 32 (ppuModeNumber s.ppu.mode)

/-- The bits of Cause that hold a field (R31). -/
def causeFields : Word := 0xF000FF7C

/-- A register the host names set to a value: r0 discards it (R148), the reserved bits of SR, Cause and DCIC stay zero (R29, R31,
R38), PRID stays what it is (R36), and a new pc starts a new sequence, so that R144 holds. DESIGN CHOICE (log entry 7): the video
block's registers are exposed for reading only. -/
def hostWrite (r : HostReg) (v : Word) (s : State) : State :=
  match r with
  | .gpr n => s.setReg n v
  | .pc => { s with pc := v, npc := v + 4, bd := false, bt := false }
  | .hi => { s with hi := v }
  | .lo => { s with lo := v }
  | .cop0 n =>
    match n with
    | 3#5 => { s with bpc := v }
    | 5#5 => { s with bda := v }
    | 6#5 => { s with tar := v }
    | 7#5 => { s with dcic := v &&& dcicWriteMask }
    | 8#5 => { s with badVaddr := v }
    | 9#5 => { s with bdam := v }
    | 11#5 => { s with bpcm := v }
    | 12#5 => { s with sr := v &&& srWriteMask }
    | 13#5 => { s with cause := v &&& causeFields }
    | 14#5 => { s with epc := v }
    | _ => s
  | .ppuLy => s
  | .ppuXpos => s
  | .ppuMode => s

/-- `get_register(id)` (R148): an id that names no register is refused. -/
def getRegister (id : Nat) (s : State) : Except Refusal Word :=
  match registerOf id s with
  | none => .error .registerIdOutOfRange
  | some r => .ok (hostRead r s)

/-- `set_register(id, value)` (R148). -/
def setRegister (id : Nat) (v : Word) (s : State) : Out :=
  match registerOf id s with
  | none => .refused .registerIdOutOfRange
  | some r => .next (hostWrite r v s)

/-! ## Memory inspection -/

/-- `peek_memory(addr)` (R77): the byte at an address, with no effect; outside the scratchpad and the memory-like regions the
answer is the platform's. -/
def peekMemory (a : Word) (s : State) : Byte :=
  if inScratch (phys a) then s.scratch.read (scratchOffset (phys a)).toNat
  else if (s.regionOf (phys a) 1).isSome then s.mem.read (phys a).toNat
  else Config.peekAnswer s.events s.draws (phys a)

/-- `poke_memory(addr, value)` (R77): only the addressed byte changes; elsewhere than the scratchpad and the memory-like regions
the byte is no state of the model. -/
def pokeMemory (a : Word) (b : Byte) (s : State) : State :=
  if inScratch (phys a) then { s with scratch := s.scratch.write (scratchOffset (phys a)).toNat b }
  else if (s.regionOf (phys a) 1).isSome then { s with mem := s.mem.write (phys a).toNat b }
  else s

/-! ## Reset and runs -/

/-- Machine reset (R420): the core's state and the video block's (R359) take their reset values; the external memory, the events
its agents have seen and the parameters stay. -/
def machineReset (s : State) : State :=
  { State.reset with mem := s.mem, events := s.events, draws := s.draws, params := s.params }

/-- One call of `run`: a finite number of whole steps that the model does not determine (R146), ending early at a refusal. -/
def runSteps : Nat → State → Out
  | 0, s => .next s
  | n + 1, s =>
    match step s with
    | .next t => runSteps n t
    | .fault r => .fault r
    | .refused r => .refused r

/-! ## The video block -/

/-- An answer of the engine put into the machine's state. -/
def withPpu (s : State) (r : Except Refusal Ppu) : Out :=
  match r with
  | .error e => .refused e
  | .ok p => .next { s with ppu := p }

/-- `advance(target_cycle)` (R354) -/
def hostPpuAdvance (env : PpuEnv) (target : Nat) (s : State) : Out :=
  withPpu s (ppuAdvance env s.params.spritePriority target s.ppu)

/-- `on_register_write(register, value, at_cycle)` (R355) -/
def hostPpuWrite (env : PpuEnv) (reg value atCycle : Nat) (s : State) : Out :=
  withPpu s (ppuRegisterWrite env s.params.spritePriority reg value atCycle s.ppu)

/-- `predict_cycles_until_xpos(target_x)` (R356) -/
def hostPpuPredict (env : PpuEnv) (targetX bound : Nat) (s : State) : Option Nat :=
  ppuPredict env s.params.spritePriority targetX bound s.ppu

/-- The host sets the scanline counter (R340). -/
def hostPpuSetLine (ly : Nat) (s : State) : State := { s with ppu := { s.ppu with ly := ly } }

end Sys2Proof.Machine
end

