-- ==== Sys2Proof/Safety.lean ====
section
/-!
DEFINITION. What counts as a good state and as the end of a run, in the terms the claims use.
-/

namespace Sys2Proof.Safety

open Sys2Proof.Machine

/-- The invariant of the machine: what every step keeps, whatever it executes. -/
structure Inv (s : State) : Prop where
  /-- r0's slot holds zero (R21, R131) -/
  r0_zero : s.regs[0] = 0
  /-- npc follows pc but in the delay slot of a taken branch (R144) -/
  npc_follows : s.bt = false → s.npc = s.pc + 4
  /-- only the slot of a branch can belong to a taken branch (R24) -/
  bt_in_slot : s.bd = false → s.bt = false
  /-- SR bits 27:26, 24:23 and 7:6 read zero (R29, R30) -/
  sr_reserved : s.sr &&& 0x0D8000C0 = 0
  /-- Cause bits 27:16, 7 and 1:0 read zero (R31) -/
  cause_reserved : s.cause &&& 0x0FFF0083 = 0
  /-- PRID (R36) -/
  prid_fixed : s.prid = 0x00000002
  /-- DCIC holds only the bits MTC0 writes (R38) -/
  dcic_reserved : s.dcic &&& 0x007FFFC0 = 0
  /-- BIU bits 6 and 10 are forced to zero (R40, R41) -/
  biu_reserved : s.biu &&& 0x00000440 = 0
  /-- TV[0] of every cache entry is set exactly while BIU.IS1 = 0 (R43, R81) -/
  cache_poison : ∀ i : BitVec 10, (s.ic.read i).tv.getLsbD 0 = !s.biuIs1
  /-- the tables are in canonical form (R42, R44, R60) -/
  ic_wf : s.ic.wf
  scratch_wf : s.scratch.scratchWf
  mem_wf : s.mem.wf

/-- The end of a run for a claim: a step boundary with pc in the set `STOP` (R151). A trap is entered within a step, so none is
being entered at a boundary. It says nothing of interrupts, of the pending load, or of time. -/
def atStop (stop : List Word) (s : State) : Bool := stop.contains s.pc

/-- A run of at most `n` steps that ends at the first boundary with pc in `stop` (R151). -/
def runToStop (stop : List Word) : Nat → State → Out
  | 0, s => .next s
  | n + 1, s =>
    if atStop stop s then .next s
    else
      match step s with
      | .next t => runToStop stop n t
      | .fault r => .fault r
      | .refused r => .refused r

/-- Kernel mode, in which every segment and coprocessor 0 can be used (R390). -/
def kernelMode (s : State) : Bool := !s.kuc

end Sys2Proof.Safety
end

