-- ==== Sys2Proof/WellFormed.lean ====
section
/-!
DEFINITION. Well-formedness. Every term of `Instr` is a well-formed instruction: each operand has exactly the width of its
field (30_encoding.md R15, R107, R108), so no operand can be out of range. What a program can still get wrong is checked here:
a branch standing in a branch's delay slot (R143, R432), and a label an assembler cannot encode (R119).
-/

namespace Sys2Proof

/-- Whether an instruction is a branch or jump, so that a delay slot follows it (R230, R242). -/
def Instr.isBranch (i : Instr) : Bool :=
  match i with
  | .jr .. => true
  | .jalr .. => true
  | .bltz .. => true
  | .bgez .. => true
  | .bltzAliasRt2 .. => true
  | .bgezAliasRt3 .. => true
  | .bltzAliasRt4 .. => true
  | .bgezAliasRt5 .. => true
  | .bltzAliasRt6 .. => true
  | .bgezAliasRt7 .. => true
  | .bltzAliasRt8 .. => true
  | .bgezAliasRt9 .. => true
  | .bltzAliasRt10 .. => true
  | .bgezAliasRt11 .. => true
  | .bltzAliasRt12 .. => true
  | .bgezAliasRt13 .. => true
  | .bltzAliasRt14 .. => true
  | .bgezAliasRt15 .. => true
  | .bltzal .. => true
  | .bgezal .. => true
  | .bltzAliasRt18 .. => true
  | .bgezAliasRt19 .. => true
  | .bltzAliasRt20 .. => true
  | .bgezAliasRt21 .. => true
  | .bltzAliasRt22 .. => true
  | .bgezAliasRt23 .. => true
  | .bltzAliasRt24 .. => true
  | .bgezAliasRt25 .. => true
  | .bltzAliasRt26 .. => true
  | .bgezAliasRt27 .. => true
  | .bltzAliasRt28 .. => true
  | .bgezAliasRt29 .. => true
  | .bltzAliasRt30 .. => true
  | .bgezAliasRt31 .. => true
  | .j .. => true
  | .jal .. => true
  | .beq .. => true
  | .bne .. => true
  | .blez .. => true
  | .bgtz .. => true
  | .bc0f .. => true
  | .bc0t .. => true
  | .bc2f .. => true
  | .bc2t .. => true
  | _ => false

/-- Two instructions in a row: the second, standing in the first one's delay slot, is no branch when the first is one (R143). -/
def slotWf (i next : Instr) : Bool := !(i.isBranch && next.isBranch)

/-- Straight-line code with no branch or jump in a delay slot (R432). -/
def codeWf : List Instr → Bool
  | [] => true
  | [_] => true
  | i :: j :: rest => slotWf i j && codeWf (j :: rest)

/-- Whether a branch at `pc` can name a label: `(label - (pc + 4)) >> 2` must fit in 16 signed bits (R119). -/
def branchLabelFits (pc label : Word) : Bool :=
  let d := label - (pc + 4)
  d.extractLsb' 0 2 == 0 && ((d.sshiftRight 2).setWidth 16).signExtend 32 == d.sshiftRight 2

/-- Whether a jump at `pc` can name a label: bits 31:28 must be those of pc + 4, bits 1:0 zero (R107, R119). -/
def jumpLabelFits (pc label : Word) : Bool :=
  label.extractLsb' 28 4 == (pc + 4).extractLsb' 28 4 && label.extractLsb' 0 2 == 0

end Sys2Proof
end

