-- ==== Sys2Proof/Certificates/Slice0/Obligations.lean ====
section
/-!
DEFINITION. The statements for the provers. First the vocabulary they share, then one definition per statement, in the order
of spec/.
-/

namespace Sys2Proof.Claims

open Sys2Proof.Machine

/-! ## What an instruction leaves behind -/

/-- `x[q]` once the pending load of `s` has committed (R136): the pending value if it is for `q` and `q` is not r0. -/
def committed (s : State) (q : RegNum) : Word :=
  match s.ld with
  | none => s.reg q
  | some l => if q = l.reg ∧ q ≠ 0 then l.val else s.reg q

/-- HI and LO are unchanged. -/
structure SameHiLo (s t : State) : Prop where
  hi : t.hi = s.hi
  lo : t.lo = s.lo

/-- The coprocessor-0 registers that are plain storage are unchanged. -/
structure SameDebug (s t : State) : Prop where
  prid : t.prid = s.prid
  bpc : t.bpc = s.bpc
  bda : t.bda = s.bda
  bdam : t.bdam = s.bdam
  bpcm : t.bpcm = s.bpcm
  dcic : t.dcic = s.dcic

/-- The exception registers are unchanged. -/
structure SameExc (s t : State) : Prop where
  sr : t.sr = s.sr
  cause : t.cause = s.cause
  epc : t.epc = s.epc
  badVaddr : t.badVaddr = s.badVaddr
  tar : t.tar = s.tar

/-- BIU and every entry of the instruction cache are unchanged. -/
structure SameCache (s t : State) : Prop where
  biu : t.biu = s.biu
  entries : ∀ i, t.ic.read i = s.ic.read i

/-- Every byte of the scratchpad and of external memory reads as before. -/
structure SameMemory (s t : State) : Prop where
  bytes : ∀ p, t.mem.read p = s.mem.read p
  scratch : ∀ o, t.scratch.read o = s.scratch.read o

/-- The parameters and the video block are unchanged, and so is what the step alone advances (the timing and the draws). -/
structure SameOutside (s t : State) : Prop where
  params : t.params = s.params
  ppu : t.ppu = s.ppu
  timestamp : t.timestamp = s.timestamp
  readAbsorb : t.readAbsorb = s.readAbsorb
  draws : t.draws = s.draws

/-- Step 7 for an instruction that is no branch (R143). -/
structure Advances (s t : State) : Prop where
  pc : t.pc = s.npc
  npc : t.npc = s.npc + 4
  bd : t.bd = false
  bt : t.bt = false

/-- Step 7 for a branch (R143, R230). -/
structure Branches (s t : State) (cond : Prop) (target : Word) : Prop where
  slot : t.pc = s.npc
  taken : cond → t.npc = target ∧ t.bt = true
  fallThrough : ¬cond → t.npc = s.npc + 4 ∧ t.bt = false
  bd : t.bd = true

/-- The pending load has committed and there is none now: the registers hold what they then hold (R136). -/
structure Commits (s t : State) : Prop where
  regs : ∀ q, t.reg q = committed s q
  ld : t.ld = none

/-- The pending load has committed and then `v` was written to register `r`, unless that is r0 (R21, R136, R140). -/
structure WritesReg (s t : State) (r : RegNum) (v : Word) : Prop where
  regs : ∀ q, t.reg q = if q = r ∧ q ≠ 0 then v else committed s q
  ld : t.ld = none

/-- `LoadDelayed(r, v)`: a pending load of another register commits, one of `r` is discarded, `(r, v)` is pending (R135, R138). -/
structure DelaysLoad (s t : State) (r : RegNum) (v : Word) : Prop where
  regs : ∀ q, t.reg q = if q = r then s.reg q else committed s q
  ld : t.ld = some ⟨r, v⟩

/-- All the state the instructions that touch only registers leave alone. -/
structure Quiet (s t : State) : Prop extends SameDebug s t, SameExc s t, SameCache s t, SameMemory s t, SameOutside s t where
  events : t.events = s.events

/-- An instruction whose whole effect is `x[r] <- v`. -/
def GivesReg (s t : State) (r : RegNum) (v : Word) : Prop :=
  WritesReg s t r v ∧ Advances s t ∧ SameHiLo s t ∧ Quiet s t

/-- An instruction with no effect of its own. -/
def DoesNothing (s t : State) : Prop := Commits s t ∧ Advances s t ∧ SameHiLo s t ∧ Quiet s t

/-- A branch with no other effect. -/
def OnlyBranches (s t : State) (cond : Prop) (target : Word) : Prop :=
  Commits s t ∧ Branches s t cond target ∧ SameHiLo s t ∧ Quiet s t

/-- A branch that links: register `r` takes `pc + 8`. -/
def LinksAndBranches (s t : State) (r : RegNum) (cond : Prop) (target : Word) : Prop :=
  WritesReg s t r (s.pc + 8) ∧ Branches s t cond target ∧ SameHiLo s t ∧ Quiet s t

/-! ## Taking an exception (R376 to R382) -/

/-- What every trap writes: `code` and `ce` as recorded in Cause, `badv` the offending address of an address error. -/
structure TrapWrites (s t : State) (code : BitVec 5) (ce : BitVec 2) (badv : Option Word) : Prop extends Commits s t where
  badVaddr : t.badVaddr = badv.getD s.badVaddr
  epc : t.epc = if s.bd then s.pc - 4 else s.pc
  tar : t.tar = if s.bd then s.npc else s.tar
  excCode : t.cause.extractLsb' 2 5 = code
  causeCe : t.cause.extractLsb' 28 2 = ce
  causeBd : t.cause.getLsbD 31 = s.bd
  causeBt : t.cause.getLsbD 30 = s.bt
  causeIp : t.cause.extractLsb' 8 8 = s.cause.extractLsb' 8 8
  causeOther : t.cause &&& 0x0FFF0083 = 0
  stack : t.sr.extractLsb' 0 6 = s.sr.extractLsb' 0 4 ++ 0#2
  srOther : t.sr.extractLsb' 6 26 = s.sr.extractLsb' 6 26
  pc : t.pc = if s.sr.getLsbD 22 then 0xBFC00180 else 0x80000080
  npc : t.npc = t.pc + 4
  bd : t.bd = false
  bt : t.bt = false

/-- A trap and nothing else: HI, LO, the debug registers, the cache, every byte of memory and the outside are untouched. -/
def Traps (s t : State) (code : BitVec 5) (ce : BitVec 2) (badv : Option Word) : Prop :=
  TrapWrites s t code ce badv ∧ SameHiLo s t ∧ SameDebug s t ∧ SameCache s t ∧ SameMemory s t ∧ SameOutside s t ∧
    t.events = s.events

/-! ## Data accesses -/

/-- `x[rs] + sext_32(imm16)` (R260). -/
def address (s : State) (rs : RegNum) (imm : BitVec 16) : Word := s.reg rs + imm.signExtend 32

/-- Whether R64 allows an access at `a`: kernel mode, or a user-segment address, or no check at all. -/
def allowed (s : State) (a : Word) : Bool := !(s.params.userKsegFault && s.sr.getLsbD 1 && a.getLsbD 31)

/-- Whether an address is a multiple of a width (R71). -/
def aligned (width : Nat) (a : Word) : Bool := a.toNat % width == 0

/-- The physical address of BIU (R67). -/
def biuPhys : Word := 0xFFFE0130

/-- Whether the bytes `p .. p+n-1` read as the machine's own memory: the scratchpad, or a memory-like region. -/
def readable (s : State) (p : Word) (n : Nat) : Bool := inScratch p || (p != biuPhys && (s.regionOf p n).isSome)

/-- Byte `k` of the scratchpad or of external memory from physical address `p`. -/
def byteFrom (s : State) (p : Word) (k : Nat) : Byte :=
  if inScratch p then s.scratch.read (p.toNat - 0x1F800000 + k) else s.mem.read (p.toNat + k)

/-- The low `n` bytes of a value. -/
def lowOf (n : Nat) (v : Word) : Word := v &&& BitVec.ofNat 32 (2 ^ (8 * n) - 1)

/-- The answer `m` of `MemRead(a, n)` at physical address `p` (R65 to R69): `n` bytes, little-endian, zero-extended; elsewhere
than in the machine's own memory and BIU the answer is the external agent's, of which nothing is known. That external memory is
split into memory-like regions, which read as last stored where one region holds all the bytes, and everything else, whose
answer is a draw, is the model's (log entry 1, DEDUCED: R68 calls every external read a draw). -/
structure ReadsFrom (s : State) (p : Word) (n : Nat) (m : Word) : Prop where
  width : m.toNat < 2 ^ (8 * n)
  memory : readable s p n → ∀ k < n, m.extractLsb' (8 * k) 8 = byteFrom s p k
  biu : p = biuPhys → m = s.biu
  device : ¬readable s p n → p ≠ biuPhys → m = lowOf n (Config.extAnswer s.events s.draws p n)

/-- What a read at `p` leaves in the record of external requests: only an access outside the core is a request (R68). -/
def readEvents (s : State) (p : Word) (n : Nat) : List Event :=
  if inScratch p ∨ p = biuPhys then s.events else .extRead p n :: s.events

/-- Whether a store at `p` changes the machine's own memory outside the core: the region that holds the bytes is RAM. -/
def isRam (s : State) (p : Word) (n : Nat) : Bool :=
  match s.regionOf p n with
  | some r => r.kind == .ram
  | none => false

/-- Byte `k` of a value, bits 8k+7:8k (R69). -/
def byteOf (v : Word) (k : Nat) : Byte := v.extractLsb' (8 * k) 8

/-- The scratchpad after the low `n` bytes of `v` are stored from offset `o`: those bytes, and no other. -/
def ScratchStores (s t : State) (o n : Nat) (v : Word) : Prop :=
  ∀ q, t.scratch.read q = if o ≤ q ∧ q < o + n then byteOf v (q - o) else s.scratch.read q

/-- External memory after the low `n` bytes of `v` are stored from physical address `p`: those bytes, and no other. -/
def MemoryStores (s t : State) (p : Word) (n : Nat) (v : Word) : Prop :=
  ∀ q, t.mem.read q = if p.toNat ≤ q ∧ q < p.toNat + n then byteOf v (q - p.toNat) else s.mem.read q

/-- `MemWrite(a, n, v)` with SR.IsC = 0 at a physical address `p` other than BIU's (R66, R68, R72); `before` is what the agents
had been asked before it. That only a RAM region that holds all the bytes takes them, and that a write to a ROM region, or to no
region, changes no byte of memory, is the model's (log entries 1, DEDUCED, and 3, PRESUMED). -/
structure StoresAt (s t : State) (p : Word) (n : Nat) (v : Word) (before : List Event) : Prop extends SameCache s t where
  scratchStore : inScratch p → ScratchStores s t (p.toNat - 0x1F800000) n v
  scratchOther : ¬inScratch p → ∀ q, t.scratch.read q = s.scratch.read q
  ramStore : ¬inScratch p → isRam s p n → MemoryStores s t p n v
  memOther : inScratch p ∨ ¬isRam s p n → ∀ q, t.mem.read q = s.mem.read q
  events : t.events = if inScratch p then before else .extWrite p n (lowOf n v) :: before

/-- `IsolatedStore(a, n, v)` (R73, R74): the cache, the scratchpad and nothing else. -/
structure StoresIsolated (s t : State) (a : Word) (n : Nat) (v : Word) (before : List Event) : Prop where
  biu : t.biu = s.biu
  disabled : ¬s.biu.getLsbD 11 → ∀ i, t.ic.read i = s.ic.read i
  tagTest : s.biu.getLsbD 11 → s.biu.getLsbD 2 → ∀ i : BitVec 10,
    t.ic.read i = if i.extractLsb' 2 8 = a.extractLsb' 4 8 then { s.ic.read i with tv := 2 } else s.ic.read i
  data : s.biu.getLsbD 11 → ¬s.biu.getLsbD 2 → ¬s.biu.getLsbD 0 → ∀ i : BitVec 10,
    t.ic.read i =
      if i = a.extractLsb' 2 10 then { s.ic.read i with data := lowOf n v <<< (8 * (a.toNat % 4)) } else s.ic.read i
  locked : s.biu.getLsbD 11 → ¬s.biu.getLsbD 2 → s.biu.getLsbD 0 → ∀ i, t.ic.read i = s.ic.read i
  scratchStore : s.params.isolatedScratchWrite → s.biu.getLsbD 7 → ¬s.biu.getLsbD 0 → ScratchStores s t (a.toNat % 1024) n v
  scratchOther : ¬s.params.isolatedScratchWrite ∨ ¬s.biu.getLsbD 7 ∨ s.biu.getLsbD 0 → ∀ q, t.scratch.read q = s.scratch.read q
  mem : ∀ q, t.mem.read q = s.mem.read q
  events : t.events = before

/-- A store's own frame: everything but the memory, the cache and the record of requests. -/
def StoreFrame (s t : State) : Prop :=
  Commits s t ∧ Advances s t ∧ SameHiLo s t ∧ SameDebug s t ∧ SameExc s t ∧ SameOutside s t

/-- A load's own frame: everything but its pending load and the record of requests. -/
def LoadFrame (s t : State) : Prop :=
  Advances s t ∧ SameHiLo s t ∧ SameDebug s t ∧ SameExc s t ∧ SameCache s t ∧ SameMemory s t ∧ SameOutside s t

/-- The five stores with the address, width and value of the access each makes (R269 to R273): SWL stores the top k+1 bytes of
rt at the aligned word, SWR the low 4-k bytes at the address itself, k being a[1:0]. -/
def storeForms (s : State) (rt rs : RegNum) (imm : BitVec 16) : List (Instr × Nat × Word × Nat × Word) :=
  let a := address s rs imm
  let k := a.toNat % 4
  [(.sb rt rs imm, 1, a, 1, s.reg rt), (.sh rt rs imm, 2, a, 2, s.reg rt), (.sw rt rs imm, 4, a, 4, s.reg rt),
    (.swl rt rs imm, 1, a &&& 0xFFFFFFFC, k + 1, s.reg rt >>> (8 * (3 - k))), (.swr rt rs imm, 1, a, 4 - k, s.reg rt)]

/-! ## Lists of instructions of one shape -/

/-- The 60 reserved primary opcodes and SPECIAL functs (R115). -/
def reservedInstrs : List Instr :=
  [
    .reservedSpecial01, .reservedSpecial05, .reservedSpecial0a, .reservedSpecial0b, .reservedSpecial0e,
    .reservedSpecial0f, .reservedSpecial14, .reservedSpecial15, .reservedSpecial16, .reservedSpecial17,
    .reservedSpecial1c, .reservedSpecial1d, .reservedSpecial1e, .reservedSpecial1f, .reservedSpecial28,
    .reservedSpecial29, .reservedSpecial2c, .reservedSpecial2d, .reservedSpecial2e, .reservedSpecial2f,
    .reservedSpecial30, .reservedSpecial31, .reservedSpecial32, .reservedSpecial33, .reservedSpecial34,
    .reservedSpecial35, .reservedSpecial36, .reservedSpecial37, .reservedSpecial38, .reservedSpecial39,
    .reservedSpecial3a, .reservedSpecial3b, .reservedSpecial3c, .reservedSpecial3d, .reservedSpecial3e,
    .reservedSpecial3f, .reservedOp14, .reservedOp15, .reservedOp16, .reservedOp17, .reservedOp18, .reservedOp19,
    .reservedOp1a, .reservedOp1b, .reservedOp1c, .reservedOp1d, .reservedOp1e, .reservedOp1f, .reservedOp27,
    .reservedOp2c, .reservedOp2d, .reservedOp2f, .reservedOp34, .reservedOp35, .reservedOp36, .reservedOp37,
    .reservedOp3c, .reservedOp3d, .reservedOp3e, .reservedOp3f]

/-- The 70 COP0 words that are no-operations (R296). -/
def cop0NoOps : List Instr :=
  [
    .cop0NopRs01, .cop0NopRs03, .cop0NopRs05, .cop0NopRs07, .cop0NopRs09, .cop0NopRs10, .cop0NopRs11, .cop0NopRs12,
    .cop0NopRs13, .cop0NopRs14, .cop0NopRs15, .cop0CoNop00, .cop0CoNop03, .cop0CoNop04, .cop0CoNop05, .cop0CoNop07,
    .cop0CoNop09, .cop0CoNop0a, .cop0CoNop0b, .cop0CoNop0c, .cop0CoNop0d, .cop0CoNop0e, .cop0CoNop0f, .cop0CoNop11,
    .cop0CoNop12, .cop0CoNop13, .cop0CoNop14, .cop0CoNop15, .cop0CoNop16, .cop0CoNop17, .cop0CoNop18, .cop0CoNop19,
    .cop0CoNop1a, .cop0CoNop1b, .cop0CoNop1c, .cop0CoNop1d, .cop0CoNop1e, .cop0CoNop1f, .cop0CoNop20, .cop0CoNop21,
    .cop0CoNop22, .cop0CoNop23, .cop0CoNop24, .cop0CoNop25, .cop0CoNop26, .cop0CoNop27, .cop0CoNop28, .cop0CoNop29,
    .cop0CoNop2a, .cop0CoNop2b, .cop0CoNop2c, .cop0CoNop2d, .cop0CoNop2e, .cop0CoNop2f, .cop0CoNop30, .cop0CoNop31,
    .cop0CoNop32, .cop0CoNop33, .cop0CoNop34, .cop0CoNop35, .cop0CoNop36, .cop0CoNop37, .cop0CoNop38, .cop0CoNop39,
    .cop0CoNop3a, .cop0CoNop3b, .cop0CoNop3c, .cop0CoNop3d, .cop0CoNop3e, .cop0CoNop3f]

/-- The 11 COP2 words that are no-operations (R319). -/
def cop2NoOps : List Instr :=
  [
    .cop2NopRs01, .cop2NopRs03, .cop2NopRs05, .cop2NopRs07, .cop2NopRs09, .cop2NopRs10, .cop2NopRs11, .cop2NopRs12,
    .cop2NopRs13, .cop2NopRs14, .cop2NopRs15]

/-- BLTZ and its aliases (R240). -/
def ltzBranches (rs : RegNum) (imm : BitVec 16) : List Instr :=
  [
    .bltz rs imm, .bltzAliasRt2 rs imm, .bltzAliasRt4 rs imm, .bltzAliasRt6 rs imm, .bltzAliasRt8 rs imm,
    .bltzAliasRt10 rs imm, .bltzAliasRt12 rs imm, .bltzAliasRt14 rs imm, .bltzAliasRt18 rs imm,
    .bltzAliasRt20 rs imm, .bltzAliasRt22 rs imm, .bltzAliasRt24 rs imm, .bltzAliasRt26 rs imm,
    .bltzAliasRt28 rs imm, .bltzAliasRt30 rs imm]

/-- BGEZ and its aliases (R241). -/
def gezBranches (rs : RegNum) (imm : BitVec 16) : List Instr :=
  [
    .bgez rs imm, .bgezAliasRt3 rs imm, .bgezAliasRt5 rs imm, .bgezAliasRt7 rs imm, .bgezAliasRt9 rs imm,
    .bgezAliasRt11 rs imm, .bgezAliasRt13 rs imm, .bgezAliasRt15 rs imm, .bgezAliasRt19 rs imm,
    .bgezAliasRt21 rs imm, .bgezAliasRt23 rs imm, .bgezAliasRt25 rs imm, .bgezAliasRt27 rs imm,
    .bgezAliasRt29 rs imm, .bgezAliasRt31 rs imm]

/-- The load-delayed instructions and their destinations (R135). -/
def loadDelayedInto (i : Instr) : Option RegNum :=
  match i with
  | .lb rt _ _ => some rt
  | .lbu rt _ _ => some rt
  | .lh rt _ _ => some rt
  | .lhu rt _ _ => some rt
  | .lw rt _ _ => some rt
  | .lwl rt _ _ => some rt
  | .lwr rt _ _ => some rt
  | .mfc0 rt _ => some rt
  | .mfc2 rt _ => some rt
  | .cfc2 rt _ => some rt
  | _ => none

/-- The general register an instruction that is not load-delayed writes as its result (41_alu.md to 43_branch.md). -/
def resultRegister (i : Instr) : Option RegNum :=
  match i with
  | .add rd _ _ => some rd
  | .addu rd _ _ => some rd
  | .sub rd _ _ => some rd
  | .subu rd _ _ => some rd
  | .and rd _ _ => some rd
  | .or rd _ _ => some rd
  | .xor rd _ _ => some rd
  | .nor rd _ _ => some rd
  | .slt rd _ _ => some rd
  | .sltu rd _ _ => some rd
  | .addi rt _ _ => some rt
  | .addiu rt _ _ => some rt
  | .slti rt _ _ => some rt
  | .sltiu rt _ _ => some rt
  | .andi rt _ _ => some rt
  | .ori rt _ _ => some rt
  | .xori rt _ _ => some rt
  | .lui rt _ => some rt
  | .sll rd _ _ => some rd
  | .srl rd _ _ => some rd
  | .sra rd _ _ => some rd
  | .sllv rd _ _ => some rd
  | .srlv rd _ _ => some rd
  | .srav rd _ _ => some rd
  | .mfhi rd => some rd
  | .mflo rd => some rd
  | .jal _ => some 31
  | .jalr rd _ => some rd
  | .bltzal _ _ => some 31
  | .bgezal _ _ => some 31
  | _ => none

/-- The instructions that store to memory (R269 to R273, R316). -/
def isStore (i : Instr) : Bool :=
  match i with
  | .sb .. => true
  | .sh .. => true
  | .sw .. => true
  | .swl .. => true
  | .swr .. => true
  | .swc2 .. => true
  | _ => false

/-- The instructions that write HI or LO (R25). -/
def writesHiLo (i : Instr) : Bool :=
  match i with
  | .mult .. => true
  | .multu .. => true
  | .div .. => true
  | .divu .. => true
  | .mthi .. => true
  | .mtlo .. => true
  | _ => false

/-- A condition as the value a set-on-less-than writes (R179). -/
def truth (p : Prop) [Decidable p] : Word := if p then 1 else 0

/-- The register-register instructions that never trap, each with its funct and its result over the integers (R172, R174 to
R180). -/
def registerForms (s : State) (rd rs rt : RegNum) : List (Instr × BitVec 6 × Word) :=
  let a := s.reg rs
  let b := s.reg rt
  [(.addu rd rs rt, 0x21, BitVec.ofNat 32 (a.toNat + b.toNat)), (.subu rd rs rt, 0x23, BitVec.ofInt 32 (a.toInt - b.toInt)),
    (.and rd rs rt, 0x24, a &&& b), (.or rd rs rt, 0x25, a ||| b), (.xor rd rs rt, 0x26, a ^^^ b),
    (.nor rd rs rt, 0x27, ~~~(a ||| b)), (.slt rd rs rt, 0x2A, truth (a.toInt < b.toInt)),
    (.sltu rd rs rt, 0x2B, truth (a.toNat < b.toNat))]

/-- The register-immediate instructions that never trap, each with its opcode and its result (R182 to R188). -/
def immediateForms (s : State) (rt rs : RegNum) (imm : BitVec 16) : List (Instr × Opcode × Word) :=
  let a := s.reg rs
  [(.addiu rt rs imm, 0x09, BitVec.ofInt 32 (a.toInt + imm.toInt)), (.slti rt rs imm, 0x0A, truth (a.toInt < imm.toInt)),
    (.sltiu rt rs imm, 0x0B, truth (a.toNat < (imm.signExtend 32).toNat)),
    (.andi rt rs imm, 0x0C, BitVec.ofNat 32 (a.toNat &&& imm.toNat)),
    (.ori rt rs imm, 0x0D, BitVec.ofNat 32 (a.toNat ||| imm.toNat)),
    (.xori rt rs imm, 0x0E, BitVec.ofNat 32 (a.toNat ^^^ imm.toNat)), (.lui rt imm, 0x0F, BitVec.ofNat 32 (imm.toNat * 65536))]

/-- The six shifts: the shift amount is sa, or the low five bits of x[rs]; a left shift multiplies, a logical right shift divides
the unsigned value, an arithmetic one the signed value, rounding down (R189 to R194). Each with its funct. -/
def shiftForms (s : State) (rd rt rs : RegNum) (sa : BitVec 5) : List (Instr × BitVec 6 × Word) :=
  let v := s.reg rt
  let n := (s.reg rs).toNat % 32
  [(.sll rd rt sa, 0x00, BitVec.ofNat 32 (v.toNat * 2 ^ sa.toNat)),
    (.srl rd rt sa, 0x02, BitVec.ofNat 32 (v.toNat / 2 ^ sa.toNat)),
    (.sra rd rt sa, 0x03, BitVec.ofInt 32 (v.toInt.fdiv (2 ^ sa.toNat))),
    (.sllv rd rt rs, 0x04, BitVec.ofNat 32 (v.toNat * 2 ^ n)), (.srlv rd rt rs, 0x06, BitVec.ofNat 32 (v.toNat / 2 ^ n)),
    (.srav rd rt rs, 0x07, BitVec.ofInt 32 (v.toInt.fdiv (2 ^ n)))]

/-- The three trapping instructions with their destination and exact result (R171, R173, R181). -/
def trappingForms (s : State) (rd rt rs : RegNum) (imm : BitVec 16) : List (Instr × RegNum × Int) :=
  let a := (s.reg rs).toInt
  [(.add rd rs rt, rd, a + (s.reg rt).toInt), (.sub rd rs rt, rd, a - (s.reg rt).toInt), (.addi rt rs imm, rt, a + imm.toInt)]

/-- The target of a branch at `pc`: `pc + 4` plus four times the signed offset, modulo 2^32 (R232). -/
def branchGoal (s : State) (imm : BitVec 16) : Word := BitVec.ofInt 32 (s.pc.toNat + 4 + 4 * imm.toInt)

/-- The target of a jump: the region of the delay slot's address, the target field, two zero bits (R232). -/
def jumpGoal (s : State) (target : BitVec 26) : Word := (s.pc + 4).extractLsb' 28 4 ++ target ++ 0b00#2

/-- Coprocessor 0 is usable: kernel mode or CU0 (R293). -/
def cop0Usable (s : State) : Bool := !s.sr.getLsbD 1 || s.sr.getLsbD 28

/-- Coprocessor 2 is usable: CU2, in either mode (R309). -/
def cop2Usable (s : State) : Bool := s.sr.getLsbD 30

/-- Coprocessor `z` is usable: SR.CUz, and kernel mode for coprocessor 0 (R293, R309, R320 to R322). -/
def usable (s : State) (z : Nat) : Bool := (z == 0 && !s.sr.getLsbD 1) || s.sr.getLsbD (28 + z)

/-- An interrupt is pending and enabled (R45). -/
def interrupted (s : State) : Prop := s.sr.getLsbD 0 ∧ ∃ k < 8, s.sr.getLsbD (8 + k) ∧ s.cause.getLsbD (8 + k)

/-- The word at physical address `p` of external memory, little-endian (R69, R85). -/
def memWord (s : State) (p : Word) : Word :=
  s.mem.read (p.toNat + 3) ++ s.mem.read (p.toNat + 2) ++ s.mem.read (p.toNat + 1) ++ s.mem.read p.toNat

/-- A fetch is cached: KUSEG or KSEG0 with BIU.IS1 = 1 (R81). -/
def cachedFetch (s : State) : Bool := decide (s.pc.toNat < 0xA0000000) && s.biu.getLsbD 11

/-- The cache entry a fetch at pc looks up, `ic[pc[11:2]]` (R42). -/
def fetchEntry (s : State) : IcEntry := s.ic.read (s.pc.extractLsb' 2 10)

/-- A word can be fetched at physical address `p`: the platform's RAM or ROM, not the scratchpad (R85). -/
def canFetch (s : State) (p : Word) : Bool := !inScratch p && (s.regionOf p 4).isSome

/-- A step's own clockwork: the cycle counter and the draws advance, the pending load's count is set (R26, R46). -/
def clocked (t : State) : State :=
  { t with
    timestamp := t.timestamp + Config.stepCycles t.draws
    readAbsorb := if t.ld.isSome then Config.readAbsorb t.draws else 0
    draws := t.draws + 1 }

/-- The opcode field of an instruction's word. -/
def opcodeOf (i : Instr) : Opcode := (encode i).extractLsb' 26 6

/-- The bits an instruction ignores do not matter: its word with any of them set still decodes to it (R116). -/
def ignoresTheRest (i : Instr) : Prop := ∀ junk : Word, decode (encode i ||| (junk &&& ~~~usedBits i)) = i

/-- The instruction's word has this primary opcode (R100). -/
def hasOpcode (i : Instr) (op : Opcode) : Prop := opcodeOf i = op ∧ ignoresTheRest i

/-- The instruction's word is a SPECIAL word with this funct (R101). -/
def isSpecial (i : Instr) (funct : BitVec 6) : Prop := hasOpcode i 0 ∧ (encode i).extractLsb' 0 6 = funct

/-- The instruction's word holds `pattern` in the bits of `mask`. -/
def isEncoded (i : Instr) (mask pattern : Word) : Prop := encode i &&& mask = pattern ∧ ignoresTheRest i

/-- Bits 20:16 of an instruction's word. -/
def rtOf (i : Instr) : RegNum := (encode i).extractLsb' 16 5

/-- An instruction of coprocessor 0: `P` where it is usable, else CpU with CE = 0 and nothing else (R293). -/
def NeedsCop0 (s : State) (i : Instr) (P : Prop) : Prop :=
  (cop0Usable s = true → P) ∧ (cop0Usable s = false → ∃ t, exec i s = .next t ∧ Traps s t 11 0 none)

/-- An instruction of coprocessor 2: `P` where it is usable, else CpU with CE = 2 and nothing else (R309). -/
def NeedsCop2 (s : State) (i : Instr) (P : Prop) : Prop :=
  (cop2Usable s = true → P) ∧ (cop2Usable s = false → ∃ t, exec i s = .next t ∧ Traps s t 11 2 none)

/-- The write of a word to BIU (R41). -/
structure BiuTakes (s t : State) (v : Word) : Prop where
  biu : t.biu = v &&& 0xFFFFFBBF
  unswitched : t.biu.getLsbD 11 = s.biu.getLsbD 11 → ∀ i, t.ic.read i = s.ic.read i
  enabled : t.biu.getLsbD 11 = true → s.biu.getLsbD 11 = false →
    ∀ i, t.ic.read i = { s.ic.read i with tv := (s.ic.read i).tv &&& 0xFFFFFFFE }
  disabled : t.biu.getLsbD 11 = false → s.biu.getLsbD 11 = true →
    ∀ i, t.ic.read i = { s.ic.read i with tv := (s.ic.read i).tv ||| 1 }

/-- The interrupt that finds a COP2 command and the parameter set to refuse it (R141). -/
def refusedCommand (s : State) (w : Word) : Bool :=
  w.extractLsb' 26 6 == 0x12#6 && w.getLsbD 25 && s.params.gteOnInterrupt == .refuse

/-- The coprocessor-0 registers that hold state, by number (R28 to R39). -/
def cop0Registers (s : State) : List (RegNum × Word) :=
  [(3, s.bpc), (5, s.bda), (6, s.tar), (7, s.dcic), (8, s.badVaddr), (9, s.bdam), (11, s.bpcm), (12, s.sr), (13, s.cause),
    (14, s.epc), (15, s.prid)]

/-- What the register-dump interface shows of a register (R49, R358). -/
def dumped (s : State) (r : HostReg) : Word :=
  match r with
  | .gpr n => s.reg n
  | .pc => s.pc
  | .hi => s.hi
  | .lo => s.lo
  | .cop0 n => ((cop0Registers s).lookup n).getD 0
  | .ppuLy => BitVec.ofNat 32 s.ppu.ly
  | .ppuXpos => BitVec.ofNat 32 s.ppu.xpos
  | .ppuMode =>
    match s.ppu.mode with
    | .endOfLine => 0
    | .vblank => 1
    | .mode2Line0 => 2
    | .mode2LineN => 2
    | _ => 3

/-- `t` is `s` with one register of the dump interface written (R148). -/
def TakesRegister (s t : State) (r : HostReg) (v : Word) : Prop :=
  match r with
  | .gpr n => t = { s with regs := t.regs } ∧ ∀ q, t.reg q = if q = n ∧ q ≠ 0 then v else s.reg q
  | .pc => t = { s with pc := v, npc := v + 4, bd := false, bt := false }
  | .hi => t = { s with hi := v }
  | .lo => t = { s with lo := v }
  | .cop0 n =>
    t = { s with
      bpc := if n = 3 then v else s.bpc
      bda := if n = 5 then v else s.bda
      tar := if n = 6 then v else s.tar
      dcic := if n = 7 then v &&& 0xFF80003F else s.dcic
      badVaddr := if n = 8 then v else s.badVaddr
      bdam := if n = 9 then v else s.bdam
      bpcm := if n = 11 then v else s.bpcm
      sr := if n = 12 then v &&& 0xF27FFF3F else s.sr
      cause := if n = 13 then v &&& 0xF000FF7C else s.cause
      epc := if n = 14 then v else s.epc }
  | _ => t = s

/-- The sprite at an OAM index covers the line (R349). -/
def onLine (env : PpuEnv) (p : Ppu) (i : Nat) : Bool :=
  let o := oamSprite env i
  decide (o.y ≤ p.ly) && decide (p.ly < o.y + (if env.tallSprites p.writes then 16 else 8))

/-- The list entry of the sprite at an OAM index: the row of its tile that the line crosses is read from VRAM (R340, R349). -/
def listedSprite (env : PpuEnv) (p : Ppu) (i : Nat) : SpriteEntry :=
  let o := oamSprite env i
  { x := o.x
    oamOffset := i * env.oamEntrySize
    tileLine := env.spriteLineDecode o ((env.spriteLineAddrs p.writes o (p.ly - o.y).toNat).map env.vramRead)
    priorityId := i
    bgp := o.bgp
    palette := o.palette
    loaded := false }

end Sys2Proof.Claims

open Sys2Proof Sys2Proof.Machine Sys2Proof.Claims

/-! ## Encoding (30_encoding.md) -/

/-- Decoding an encoded instruction gives it back, whatever follows it (R100, R118). -/
def Obligations.DecodeOfEncode : Prop :=
  ∀ (i : Instr) (rest : List Byte), decode (encode i) = i ∧ decodeBytes (encodeBytes i ++ rest) = .ok (i, rest)

/-- Encoding a decoded word gives its bits back, but for those its instruction ignores (R116, R118). -/
def Obligations.EncodeOfDecode : Prop := ∀ w : Word, encode (decode w) = w &&& usedBits (decode w)

/-- The ignored bits do not matter: a word that agrees with another on the bits the other's instruction reads is the same
instruction (R116). -/
def Obligations.IgnoredBitsDoNotMatter : Prop :=
  ∀ w w' : Word, w' &&& usedBits (decode w) = w &&& usedBits (decode w) → decode w' = decode w

/-- Every word lies in the row of the instruction it decodes to, and in no other row (R118). -/
def Obligations.EveryWordHasOneRow : Prop :=
  ∀ w : Word, w &&& (rowOf (decode w)).mask = (rowOf (decode w)).pattern ∧
    ∀ i : Instr, w &&& (rowOf i).mask = (rowOf i).pattern → rowOf i = rowOf (decode w)

/-- Words written out from the encodings decode to the instructions they stand for (R101 to R106). -/
def Obligations.SampleWordsDecode : Prop :=
  decode 0b000000_00001_00010_00011_00000_100001#32 = .addu 3 1 2 ∧
  decode 0b000000_00000_00010_00011_11111_000000#32 = .sll 3 2 31 ∧
  decode 0b000000_00001_00010_00000_00000_011010#32 = .div 1 2 ∧
  decode 0b001000_00001_00010_1111111111111111#32 = .addi 2 1 0xFFFF ∧
  decode 0b000001_00001_10000_0000000000000010#32 = .bltzal 1 2 ∧
  decode 0b000011_00000000000000100000000000#32 = .jal 0x800 ∧
  decode 0b100010_00000_00011_0000000100000001#32 = .lwl 3 0 0x101 ∧
  decode 0b101011_00001_00010_1000000000000000#32 = .sw 2 1 0x8000 ∧
  decode 0b010000_00000_11010_01110_00000000000#32 = .mfc0 26 14 ∧
  decode 0b010000_1_0000000000000000000_010000#32 = .rfe ∧
  decode 0b010010_1_0000110000000000000000001#32 = .cop2 0x0180001 ∧
  decode 0b111010_00100_11000_0000000000000000#32 = .swc2 24 4 0 ∧
  decode 0b111111_00000000000000000000000000#32 = .reservedOp3f

/-! ## The step (40_pipeline.md) -/

/-- A step fetches, decodes and runs: where the pc is in order and no interrupt is pending, the step is the meaning of the decoded
instruction on the fetched state with r0 zeroed, and then the clock (R130). -/
def Obligations.StepRunsDecodedInstruction : Prop :=
  ∀ (s s' : State) (w : Word) (i : Instr), aligned 4 s.pc → allowed s s.pc → iFetch s = .ok (w, s') → decode w = i →
    ¬interrupted s →
    s' = { s with ic := s'.ic } ∧
    (∀ t, exec i s'.zeroR0 = .next t → step s = .next (clocked t)) ∧
    (∀ r, exec i s'.zeroR0 = .refused r → step s = .refused r)

/-- A pc that is misaligned, or in a kernel segment in user mode, takes the address error before anything is fetched (R133). -/
def Obligations.FetchAddressErrorTraps : Prop :=
  ∀ s : State, ¬aligned 4 s.pc ∨ ¬allowed s s.pc →
    ∃ t, step s = .next (clocked t) ∧ Traps s t 4 0 (some s.pc)

/-- A pending interrupt is taken after the fetch and before the fetched instruction executes, with the fetched word's bits 27:26
in Cause.CE; a COP2 command may be refused instead, if the parameter says so (R141, R384). -/
def Obligations.InterruptPreempts : Prop :=
  ∀ (s s' : State) (w : Word), aligned 4 s.pc → allowed s s.pc → iFetch s = .ok (w, s') → interrupted s →
    (refusedCommand s w = true → step s = .refused .gteInterrupted) ∧
    (refusedCommand s w = false →
      ∃ t, step s = .next (clocked t) ∧ TrapWrites s t 0 (w.extractLsb' 26 2) none ∧ SameHiLo s t ∧ SameDebug s t ∧
        SameMemory s t ∧ SameOutside s t ∧ t.biu = s.biu ∧ t.ic = s'.ic ∧ t.events = s.events)

/-- A pending load never lasts more than one instruction: after an instruction that completes, either nothing is pending and the
old value has reached its register (unless the result overwrote it), or the instruction is one of the load-delayed ten and its own
load is pending (R135, R136, R138). -/
def Obligations.PendingLoadLastsOneInstruction : Prop :=
  ∀ (i : Instr) (s t : State), exec i s = .next t →
    (t.ld = none ∧ ∀ q, resultRegister i ≠ some q → t.reg q = committed s q) ∨
    (∃ r v, loadDelayedInto i = some r ∧ DelaysLoad s t r v)

/-- A run that ends at the set STOP (R146, R147, R151): it has made some number k of whole steps, which the model's step count shows;
the states before the last were at boundaries outside STOP, and the last is at one in STOP unless all n steps were made; the run
has advanced the cycle counter, never back, and touched neither the parameters, nor PRID, nor the video block; and going on from
where it ended for m steps more is what a run of n + m steps does. That every boundary with pc in STOP ends a run is the model's
reading (log entry 11, DEDUCED). -/
def Obligations.RunEndsAtStop : Prop :=
  ∀ (stop : List Word) (n : Nat) (s t : State), Safety.runToStop stop n s = .next t →
    (∃ k ≤ n, t.draws = s.draws + k ∧ runSteps k s = .next t ∧
      (∀ j < k, ∃ u v, runSteps j s = .next u ∧ u.pc ∉ stop ∧ step u = .next v ∧ runSteps (j + 1) s = .next v) ∧
      (k < n → t.pc ∈ stop)) ∧
    t.params = s.params ∧ t.prid = s.prid ∧ t.ppu = s.ppu ∧ s.timestamp ≤ t.timestamp ∧
    ∀ m, Safety.runToStop stop (n + m) s = Safety.runToStop stop m t

/-! ## Fetch and memory (20_memory.md) -/

/-- The physical address of every virtual address: KUSEG and KSEG2 pass, KSEG0 and KSEG1 both map onto the low 512 MiB (R62). -/
def Obligations.PhysicalAddresses : Prop :=
  ∀ a : Word,
    (a.toNat < 0x80000000 → phys a = a) ∧
    (0x80000000 ≤ a.toNat → a.toNat < 0xA0000000 → (phys a).toNat = a.toNat - 0x80000000) ∧
    (0xA0000000 ≤ a.toNat → a.toNat < 0xC0000000 → (phys a).toNat = a.toNat - 0xA0000000) ∧
    (0xC0000000 ≤ a.toNat → phys a = a)

/-- A fetch that needs no refill: a hit gives the cached word; a miss outside the cached segments, or with the cache disabled,
reads the word and changes nothing; a word outside RAM and ROM is refused (R80, R82, R84, R85). That the fetchable addresses are
those whose four bytes one memory-like region holds is the model's (log entry 1, DEDUCED). -/
def Obligations.FetchWithoutRefill : Prop :=
  ∀ s : State,
    ((fetchEntry s).tv = s.pc → iFetch s = .ok ((fetchEntry s).data, s)) ∧
    (aligned 4 s.pc → (fetchEntry s).tv ≠ s.pc → cachedFetch s = false → canFetch s (phys s.pc) = true →
      iFetch s = .ok (memWord s (phys s.pc), s)) ∧
    ((fetchEntry s).tv ≠ s.pc → cachedFetch s = false → canFetch s (phys s.pc) = false →
      iFetch s = .error .fetchNotFetchable)

/-- A refill: the entries of the line before the missed word are marked invalid and keep their words, the missed word and those
after it are loaded, every other entry and every other piece of state is untouched, and the missed word is fetched (R80, R83). Which
addresses are fetchable is the model's (log entry 1, DEDUCED). -/
def Obligations.RefillLoadsTheRestOfTheLine : Prop :=
  ∀ s : State, (fetchEntry s).tv ≠ s.pc → cachedFetch s = true →
    (∀ k : BitVec 2, (s.pc.extractLsb' 2 2).toNat ≤ k.toNat → canFetch s (phys (s.pc.extractLsb' 4 28 ++ k ++ 0#2)) = true) →
    ∃ w c, iFetch s = .ok (w, { s with ic := c }) ∧
      w = memWord s (phys (s.pc.extractLsb' 2 30 ++ 0#2)) ∧
      (∀ i : BitVec 10, i.extractLsb' 2 8 ≠ s.pc.extractLsb' 4 8 → c.read i = s.ic.read i) ∧
      ∀ k : BitVec 2,
        c.read (s.pc.extractLsb' 4 8 ++ k) =
          if k.toNat < (s.pc.extractLsb' 2 2).toNat then
            ⟨s.pc.extractLsb' 4 28 ++ k ++ 2#2, (s.ic.read (s.pc.extractLsb' 4 8 ++ k)).data⟩
          else ⟨s.pc.extractLsb' 4 28 ++ k ++ 0#2, memWord s (phys (s.pc.extractLsb' 4 28 ++ k ++ 0#2))⟩

/-- A load returns the bytes of the latest earlier store to the same address, in the scratchpad and in RAM (R87, R66). -/
def Obligations.LoadReturnsLatestStore : Prop :=
  ∀ (s t : State) (a v : Word) (n : Nat), 1 ≤ n → n ≤ 4 → ¬s.sr.getLsbD 16 →
    (inScratch (phys a) = true ∨ (phys a ≠ biuPhys ∧ isRam s (phys a) n = true)) → memWrite a n v s = .ok t →
    ∃ t', memRead a n t = .ok (lowOf n v, t') ∧ SameMemory t t'

/-! ## Integer arithmetic (41_alu.md) -/

/-- The register-register instructions that never trap (R172, R174 to R180). -/
def Obligations.RegisterRegisterResults : Prop :=
  ∀ (s : State) (rd rs rt : RegNum), ∀ x ∈ registerForms s rd rs rt,
    isSpecial x.1 x.2.1 ∧ ∃ t, exec x.1 s = .next t ∧ GivesReg s t rd x.2.2

/-- The register-immediate instructions that never trap (R182 to R188). -/
def Obligations.RegisterImmediateResults : Prop :=
  ∀ (s : State) (rt rs : RegNum) (imm : BitVec 16), ∀ x ∈ immediateForms s rt rs imm,
    hasOpcode x.1 x.2.1 ∧ ∃ t, exec x.1 s = .next t ∧ GivesReg s t rt x.2.2

/-- The six shifts (R189 to R194). -/
def Obligations.ShiftResults : Prop :=
  ∀ (s : State) (rd rt rs : RegNum) (sa : BitVec 5), ∀ x ∈ shiftForms s rd rt rs sa,
    isSpecial x.1 x.2.1 ∧ ∃ t, exec x.1 s = .next t ∧ GivesReg s t rd x.2.2

/-- ADD, SUB and ADDI write the exact result when it is a signed 32-bit number, and take Ov instead of writing it when it is not,
whatever the destination (R170, R171, R173, R181). -/
def Obligations.TrappingArithmetic : Prop :=
  ∀ (s : State) (rd rt rs : RegNum) (imm : BitVec 16),
    isSpecial (.add rd rs rt) 0x20 ∧ isSpecial (.sub rd rs rt) 0x22 ∧ hasOpcode (.addi rt rs imm) 0x08 ∧
    ∀ x ∈ trappingForms s rd rt rs imm,
    (-(2 ^ 31) ≤ x.2.2 → x.2.2 < 2 ^ 31 → ∃ t, exec x.1 s = .next t ∧ GivesReg s t x.2.1 (BitVec.ofInt 32 x.2.2)) ∧
    (x.2.2 < -(2 ^ 31) ∨ 2 ^ 31 ≤ x.2.2 → ∃ t, exec x.1 s = .next t ∧ Traps s t 12 ((opcodeOf x.1).extractLsb' 0 2) none)

/-! ## Multiply and divide (42_muldiv.md) -/

/-- MULT and MULTU: HI and LO together are the exact product (R210 to R212). -/
def Obligations.MultiplyIsExact : Prop :=
  ∀ (s : State) (rs rt : RegNum),
    isSpecial (.mult rs rt) 0x18 ∧ isSpecial (.multu rs rt) 0x19 ∧
    (∃ t, exec (.mult rs rt) s = .next t ∧ (t.hi ++ t.lo).toInt = (s.reg rs).toInt * (s.reg rt).toInt ∧
      Commits s t ∧ Advances s t ∧ Quiet s t) ∧
    (∃ t, exec (.multu rs rt) s = .next t ∧ (t.hi ++ t.lo).toNat = (s.reg rs).toNat * (s.reg rt).toNat ∧
      Commits s t ∧ Advances s t ∧ Quiet s t)

/-- DIV and DIVU: the quotient truncates toward zero and the remainder has the dividend's sign; a zero divisor, and 0x80000000
divided by 0xFFFFFFFF for DIV, give the values the rules list (R213, R214). -/
def Obligations.DivisionTruncates : Prop :=
  ∀ (s : State) (rs rt : RegNum), isSpecial (.div rs rt) 0x1A ∧ isSpecial (.divu rs rt) 0x1B ∧
    (∃ t, exec (.div rs rt) s = .next t ∧ Commits s t ∧ Advances s t ∧ Quiet s t ∧
      (s.reg rt ≠ 0 → ¬(s.reg rs = 0x80000000 ∧ s.reg rt = 0xFFFFFFFF) →
        (s.reg rs).toInt = t.lo.toInt * (s.reg rt).toInt + t.hi.toInt ∧ t.hi.toInt.natAbs < (s.reg rt).toInt.natAbs ∧
          (0 ≤ (s.reg rs).toInt → 0 ≤ t.hi.toInt) ∧ ((s.reg rs).toInt ≤ 0 → t.hi.toInt ≤ 0)) ∧
      (s.reg rt = 0 → t.hi = s.reg rs ∧ t.lo = if (s.reg rs).toInt < 0 then 1 else 0xFFFFFFFF) ∧
      (s.reg rs = 0x80000000 → s.reg rt = 0xFFFFFFFF → t.lo = 0x80000000 ∧ t.hi = 0)) ∧
    (∃ t, exec (.divu rs rt) s = .next t ∧ Commits s t ∧ Advances s t ∧ Quiet s t ∧
      (s.reg rt ≠ 0 →
        (s.reg rs).toNat = t.lo.toNat * (s.reg rt).toNat + t.hi.toNat ∧ t.hi.toNat < (s.reg rt).toNat) ∧
      (s.reg rt = 0 → t.lo = 0xFFFFFFFF ∧ t.hi = s.reg rs))

/-- The moves of HI and LO (R215 to R218). -/
def Obligations.HiLoMoves : Prop :=
  ∀ (s : State) (r : RegNum),
    isSpecial (.mfhi r) 0x10 ∧ isSpecial (.mthi r) 0x11 ∧ isSpecial (.mflo r) 0x12 ∧ isSpecial (.mtlo r) 0x13 ∧
    (∃ t, exec (.mfhi r) s = .next t ∧ GivesReg s t r s.hi) ∧
    (∃ t, exec (.mflo r) s = .next t ∧ GivesReg s t r s.lo) ∧
    (∃ t, exec (.mthi r) s = .next t ∧ t.hi = s.reg r ∧ t.lo = s.lo ∧ Commits s t ∧ Advances s t ∧ Quiet s t) ∧
    (∃ t, exec (.mtlo r) s = .next t ∧ t.lo = s.reg r ∧ t.hi = s.hi ∧ Commits s t ∧ Advances s t ∧ Quiet s t)

/-- Only the multiplies, the divides, MTHI and MTLO write HI or LO (R25). -/
def Obligations.OnlyMulDivWriteHiLo : Prop :=
  ∀ (i : Instr) (s t : State), writesHiLo i = false → exec i s = .next t → SameHiLo s t

/-! ## Branches and jumps (43_branch.md) -/

/-- The jumps outside a delay slot: the slot executes next, then the target, and JAL and JALR link (R233 to R235). -/
def Obligations.JumpsTransferControl : Prop :=
  ∀ (s : State) (target : BitVec 26) (rd rs : RegNum), s.bd = false →
    (hasOpcode (.j target) 0x02 ∧ hasOpcode (.jal target) 0x03 ∧ isSpecial (.jr rs) 0x08 ∧ isSpecial (.jalr rd rs) 0x09) ∧
    (∃ t, exec (.j target) s = .next t ∧ OnlyBranches s t True (jumpGoal s target)) ∧
    (∃ t, exec (.jal target) s = .next t ∧ LinksAndBranches s t 31 True (jumpGoal s target)) ∧
    (∃ t, exec (.jr rs) s = .next t ∧ OnlyBranches s t True (s.reg rs)) ∧
    (∃ t, exec (.jalr rd rs) s = .next t ∧ LinksAndBranches s t rd True (s.reg rs))

/-- The conditional branches outside a delay slot (R232, R236 to R239). -/
def Obligations.ConditionalBranches : Prop :=
  ∀ (s : State) (rs rt : RegNum) (imm : BitVec 16), s.bd = false →
    (hasOpcode (.beq rs rt imm) 0x04 ∧ hasOpcode (.bne rs rt imm) 0x05 ∧ hasOpcode (.blez rs imm) 0x06 ∧
      hasOpcode (.bgtz rs imm) 0x07) ∧
    (∃ t, exec (.beq rs rt imm) s = .next t ∧ OnlyBranches s t (s.reg rs = s.reg rt) (branchGoal s imm)) ∧
    (∃ t, exec (.bne rs rt imm) s = .next t ∧ OnlyBranches s t (s.reg rs ≠ s.reg rt) (branchGoal s imm)) ∧
    (∃ t, exec (.blez rs imm) s = .next t ∧ OnlyBranches s t ((s.reg rs).toInt ≤ 0) (branchGoal s imm)) ∧
    (∃ t, exec (.bgtz rs imm) s = .next t ∧ OnlyBranches s t (0 < (s.reg rs).toInt) (branchGoal s imm))

/-- The 32 REGIMM branches outside a delay slot: the sign of x[rs] decides, and rt = 16 and rt = 17 alone link, whether or not the
branch is taken (R112, R240, R241). -/
def Obligations.RegimmBranches : Prop :=
  ∀ (s : State) (rs : RegNum) (imm : BitVec 16), s.bd = false →
    (∀ i ∈ .bltzal rs imm :: .bgezal rs imm :: (ltzBranches rs imm ++ gezBranches rs imm), hasOpcode i 0x01) ∧
    ((ltzBranches rs imm).map rtOf = [0, 2, 4, 6, 8, 10, 12, 14, 18, 20, 22, 24, 26, 28, 30] ∧
      (gezBranches rs imm).map rtOf = [1, 3, 5, 7, 9, 11, 13, 15, 19, 21, 23, 25, 27, 29, 31] ∧
      rtOf (.bltzal rs imm) = 16 ∧ rtOf (.bgezal rs imm) = 17) ∧
    (∀ i ∈ ltzBranches rs imm, ∃ t, exec i s = .next t ∧ OnlyBranches s t ((s.reg rs).toInt < 0) (branchGoal s imm)) ∧
    (∀ i ∈ gezBranches rs imm, ∃ t, exec i s = .next t ∧ OnlyBranches s t (0 ≤ (s.reg rs).toInt) (branchGoal s imm)) ∧
    (∃ t, exec (.bltzal rs imm) s = .next t ∧ LinksAndBranches s t 31 ((s.reg rs).toInt < 0) (branchGoal s imm)) ∧
    (∃ t, exec (.bgezal rs imm) s = .next t ∧ LinksAndBranches s t 31 (0 ≤ (s.reg rs).toInt) (branchGoal s imm))

/-- The coprocessor branches: outside a delay slot BCzF is always taken and BCzT never, the condition inputs being constant false; in
a delay slot they are refused, where their coprocessor is usable (R298, R318). That CpU is taken first where it is not is the
model's (log entry 10, DEDUCED). -/
def Obligations.CoprocessorBranches : Prop :=
  ∀ (s : State) (imm : BitVec 16),
    (isEncoded (.bc0f imm) 0xFFE10000 0x41000000 ∧ isEncoded (.bc0t imm) 0xFFE10000 0x41010000 ∧
      isEncoded (.bc2f imm) 0xFFE10000 0x49000000 ∧ isEncoded (.bc2t imm) 0xFFE10000 0x49010000) ∧
    (s.bd = false →
      NeedsCop0 s (.bc0f imm) (∃ t, exec (.bc0f imm) s = .next t ∧ OnlyBranches s t True (branchGoal s imm)) ∧
      NeedsCop0 s (.bc0t imm) (∃ t, exec (.bc0t imm) s = .next t ∧ OnlyBranches s t False (branchGoal s imm)) ∧
      NeedsCop2 s (.bc2f imm) (∃ t, exec (.bc2f imm) s = .next t ∧ OnlyBranches s t True (branchGoal s imm)) ∧
      NeedsCop2 s (.bc2t imm) (∃ t, exec (.bc2t imm) s = .next t ∧ OnlyBranches s t False (branchGoal s imm))) ∧
    (s.bd = true →
      NeedsCop0 s (.bc0f imm) (exec (.bc0f imm) s = .refused .branchInDelaySlot) ∧
      NeedsCop0 s (.bc0t imm) (exec (.bc0t imm) s = .refused .branchInDelaySlot) ∧
      NeedsCop2 s (.bc2f imm) (exec (.bc2f imm) s = .refused .branchInDelaySlot) ∧
      NeedsCop2 s (.bc2t imm) (exec (.bc2t imm) s = .refused .branchInDelaySlot))

/-- Every branch and jump executed in a delay slot is refused, a coprocessor branch when its coprocessor is usable (R143). -/
def Obligations.BranchInDelaySlotRefused : Prop :=
  ∀ (i : Instr) (s : State), i.isBranch = true → s.bd = true → (opcodeOf i = 0x10 → cop0Usable s) →
    (opcodeOf i = 0x12 → cop2Usable s) → exec i s = .refused .branchInDelaySlot

/-! ## Loads and stores (44_loadstore.md) -/

/-- LB, LBU, LH, LHU and LW: the little-endian bytes at the address, extended, become the pending load; a misaligned or forbidden
address takes AdEL and makes no access (R261, R263 to R265, R268). What a device answers is free; an access to BIU that is not a
word is refused (R67). Which external bytes read as last stored is the model's (log entry 1, DEDUCED). -/
def Obligations.LoadsReadMemory : Prop :=
  ∀ (s : State) (rt rs : RegNum) (imm : BitVec 16),
    let a := address s rs imm
    ∀ x ∈ ([(.lb rt rs imm, 0x20, 1, fun m => (m.setWidth 8).signExtend 32), (.lbu rt rs imm, 0x24, 1, id),
        (.lh rt rs imm, 0x21, 2, fun m => (m.setWidth 16).signExtend 32), (.lhu rt rs imm, 0x25, 2, id),
        (.lw rt rs imm, 0x23, 4, id)] : List (Instr × Opcode × Nat × (Word → Word))),
      hasOpcode x.1 x.2.1 ∧
      (¬aligned x.2.2.1 a ∨ ¬allowed s a → ∃ t, exec x.1 s = .next t ∧ Traps s t 4 (x.2.1.extractLsb' 0 2) (some a)) ∧
      (aligned x.2.2.1 a → allowed s a → phys a = biuPhys → x.2.2.1 ≠ 4 → exec x.1 s = .refused .biuPartialAccess) ∧
      (aligned x.2.2.1 a → allowed s a → phys a ≠ biuPhys ∨ x.2.2.1 = 4 →
        ∃ t m, exec x.1 s = .next t ∧ ReadsFrom s (phys a) x.2.2.1 m ∧ DelaysLoad s t rt (x.2.2.2 m) ∧ LoadFrame s t ∧
          t.events = readEvents s (phys a) x.2.2.1)

/-- LWL and LWR merge into the value rt is about to have: the pending value if a load of rt is pending, else x[rt]. LWL puts
bytes 0..k of the aligned word in the top k+1 bytes, LWR bytes k..3 in the bottom 4-k, each by one access of just those bytes; a
forbidden address takes AdEL (R137, R266, R267). Which external bytes read as last stored is the model's (log entry 1, DEDUCED). -/
def Obligations.UnalignedLoadsMerge : Prop :=
  ∀ (s : State) (rt rs : RegNum) (imm : BitVec 16),
    let a := address s rs imm
    let k := a.toNat % 4
    let base := match s.ld with
      | some l => if l.reg = rt then l.val else s.reg rt
      | none => s.reg rt
    hasOpcode (.lwl rt rs imm) 0x22 ∧ hasOpcode (.lwr rt rs imm) 0x26 ∧
    (¬allowed s a →
      (∃ t, exec (.lwl rt rs imm) s = .next t ∧ Traps s t 4 2 (some a)) ∧
      (∃ t, exec (.lwr rt rs imm) s = .next t ∧ Traps s t 4 2 (some a))) ∧
    (allowed s a → phys (a &&& 0xFFFFFFFC) = biuPhys → k ≠ 3 → exec (.lwl rt rs imm) s = .refused .biuPartialAccess) ∧
    (allowed s a → phys (a &&& 0xFFFFFFFC) ≠ biuPhys ∨ k = 3 →
      ∃ t m v, exec (.lwl rt rs imm) s = .next t ∧ ReadsFrom s (phys (a &&& 0xFFFFFFFC)) (k + 1) m ∧
        (∀ j < 4, byteOf v j = if j < 3 - k then byteOf base j else byteOf m (j - (3 - k))) ∧
        DelaysLoad s t rt v ∧ LoadFrame s t ∧ t.events = readEvents s (phys (a &&& 0xFFFFFFFC)) (k + 1)) ∧
    (allowed s a →
      ∃ t m v, exec (.lwr rt rs imm) s = .next t ∧ ReadsFrom s (phys a) (4 - k) m ∧
        (∀ j < 4, byteOf v j = if j < 4 - k then byteOf m j else byteOf base j) ∧
        DelaysLoad s t rt v ∧ LoadFrame s t ∧ t.events = readEvents s (phys a) (4 - k))

/-- The stores: a misaligned or forbidden address takes AdES and writes nothing; with SR.IsC = 0 and an address that is not BIU's,
the bytes of the access, in the scratchpad or in a RAM region, take the low bytes of the value and no other byte of memory changes,
and outside the scratchpad the write is a request to the external agent; less than a word of BIU is refused (R66, R68, R262, R269
to R273). That a write to a ROM region, or to no region, changes no byte is the model's (log entries 1, DEDUCED, and 3, PRESUMED). -/
def Obligations.StoresWriteTheirBytes : Prop :=
  ∀ (s : State) (rt rs : RegNum) (imm : BitVec 16),
    let a := address s rs imm
    (hasOpcode (.sb rt rs imm) 0x28 ∧ hasOpcode (.sh rt rs imm) 0x29 ∧ hasOpcode (.sw rt rs imm) 0x2B ∧
      hasOpcode (.swl rt rs imm) 0x2A ∧ hasOpcode (.swr rt rs imm) 0x2E) ∧
    ∀ x ∈ storeForms s rt rs imm,
      (¬aligned x.2.1 a ∨ ¬allowed s a →
        ∃ t, exec x.1 s = .next t ∧ Traps s t 5 ((opcodeOf x.1).extractLsb' 0 2) (some a)) ∧
      (¬s.sr.getLsbD 16 → aligned x.2.1 a → allowed s a → phys x.2.2.1 = biuPhys → x.2.2.2.1 ≠ 4 →
        exec x.1 s = .refused .biuPartialAccess) ∧
      (¬s.sr.getLsbD 16 → aligned x.2.1 a → allowed s a → phys x.2.2.1 ≠ biuPhys →
        ∃ t, exec x.1 s = .next t ∧ StoreFrame s t ∧ StoresAt s t (phys x.2.2.1) x.2.2.2.1 x.2.2.2.2 s.events)

/-- The stores of a word to BIU with SR.IsC = 0: bits 6 and 10 are forced to zero, and switching IS1 on or off clears or sets bit 0
of every cache entry's TV word, whose other bits and data stay (R41). -/
def Obligations.BiuStores : Prop :=
  ∀ (s : State) (rt rs : RegNum) (imm : BitVec 16), s.ic.wf → ¬s.sr.getLsbD 16 → allowed s (address s rs imm) →
    ∀ x ∈ ([(.sw rt rs imm, biuPhys), (.swr rt rs imm, biuPhys), (.swl rt rs imm, biuPhys + 3)] : List (Instr × Word)),
      address s rs imm = x.2 →
        ∃ t, exec x.1 s = .next t ∧ StoreFrame s t ∧ SameMemory s t ∧ t.events = s.events ∧ BiuTakes s t (s.reg rt)

/-- The stores with SR.IsC = 1: they go to the instruction cache and the scratchpad as R73 and R74 say, and to no memory. The value a
partial store puts into a cache entry and the scratchpad offset are the model's (log entry 18, DEDUCED). -/
def Obligations.IsolatedStores : Prop :=
  ∀ (s : State) (rt rs : RegNum) (imm : BitVec 16), s.sr.getLsbD 16 → allowed s (address s rs imm) →
    ∀ x ∈ storeForms s rt rs imm, aligned x.2.1 (address s rs imm) →
      ∃ t, exec x.1 s = .next t ∧ StoreFrame s t ∧ StoresIsolated s t x.2.2.1 x.2.2.2.1 x.2.2.2.2 s.events

/-- Only the stores change a byte of memory, BIU or an entry of the instruction cache (R60, R89). -/
def Obligations.OnlyStoresChangeMemory : Prop :=
  ∀ (i : Instr) (s t : State), isStore i = false → exec i s = .next t → SameMemory s t ∧ SameCache s t

/-! ## System instructions and coprocessors (45_system_cop.md) -/

/-- SYSCALL and BREAK take their exceptions whatever their code field holds, which is recorded nowhere (R300, R301). -/
def Obligations.SyscallAndBreakTrap : Prop :=
  ∀ (s : State) (code : BitVec 20),
    (isSpecial (.syscall code) 0x0C ∧ ∃ t, exec (.syscall code) s = .next t ∧ Traps s t 8 0 none) ∧
    (isSpecial (.brk code) 0x0D ∧ ∃ t, exec (.brk code) s = .next t ∧ Traps s t 9 0 none)

/-- The reserved primary opcodes and SPECIAL functs take the reserved-instruction exception (R115). -/
def Obligations.ReservedInstructionsTrap : Prop :=
  ∀ (s : State), ∀ i ∈ reservedInstrs, ∃ t, exec i s = .next t ∧ Traps s t 10 ((opcodeOf i).extractLsb' 0 2) none

/-- CFC0, CTC0 and the four TLB instructions take RI after the usability check (R294, R295). -/
def Obligations.ReservedCop0FormsTrap : Prop :=
  ∀ (s : State) (rt rd : RegNum),
    ∀ x ∈ ([(.cfc0 rt rd, 0xFFE00000, 0x40400000), (.ctc0 rt rd, 0xFFE00000, 0x40C00000), (.tlbr, 0xFE00003F, 0x42000001),
        (.tlbwi, 0xFE00003F, 0x42000002), (.tlbwr, 0xFE00003F, 0x42000006), (.tlbp, 0xFE00003F, 0x42000008)] :
        List (Instr × Word × Word)),
      isEncoded x.1 x.2.1 x.2.2 ∧ NeedsCop0 s x.1 (∃ t, exec x.1 s = .next t ∧ Traps s t 10 0 none)

/-- MFC0: the eleven registers are load-delayed into rt, the absent TLB registers take RI, and the numbers 16 to 31 do nothing
(R39, R290). -/
def Obligations.Mfc0Reads : Prop :=
  ∀ (s : State) (rt rd : RegNum), isEncoded (.mfc0 rt rd) 0xFFE00000 0x40000000 ∧ NeedsCop0 s (.mfc0 rt rd)
    ((∀ x ∈ ([(3, s.bpc), (5, s.bda), (6, s.tar), (7, s.dcic), (8, s.badVaddr), (9, s.bdam), (11, s.bpcm), (12, s.sr),
        (13, s.cause), (14, s.epc), (15, s.prid)] : List (RegNum × Word)), rd = x.1 →
      ∃ t, exec (.mfc0 rt rd) s = .next t ∧ DelaysLoad s t rt x.2 ∧ LoadFrame s t ∧ t.events = s.events) ∧
    (rd ∈ ([0, 1, 2, 4, 10] : List RegNum) → ∃ t, exec (.mfc0 rt rd) s = .next t ∧ Traps s t 10 0 none) ∧
    (16 ≤ rd.toNat → ∃ t, exec (.mfc0 rt rd) s = .next t ∧ DoesNothing s t))

/-- MTC0: each register takes the bits the rules let it take, and the read-only and absent ones ignore the write (R30, R32, R291). -/
def Obligations.Mtc0Writes : Prop :=
  ∀ (s : State) (rt rd : RegNum), isEncoded (.mtc0 rt rd) 0xFFE00000 0x40800000 ∧ NeedsCop0 s (.mtc0 rt rd)
    (∃ t, exec (.mtc0 rt rd) s = .next t ∧ Commits s t ∧ Advances s t ∧ SameHiLo s t ∧ SameCache s t ∧ SameMemory s t ∧
      SameOutside s t ∧ t.events = s.events ∧
      t.bpc = (if rd = 3 then s.reg rt else s.bpc) ∧ t.bda = (if rd = 5 then s.reg rt else s.bda) ∧
      t.bdam = (if rd = 9 then s.reg rt else s.bdam) ∧ t.bpcm = (if rd = 11 then s.reg rt else s.bpcm) ∧
      t.dcic = (if rd = 7 then s.reg rt &&& 0xFF80003F else s.dcic) ∧
      t.sr = (if rd = 12 then s.reg rt &&& 0xF27FFF3F else s.sr) ∧
      t.cause = (if rd = 13 then s.cause.extractLsb' 10 22 ++ (s.reg rt).extractLsb' 8 2 ++ s.cause.extractLsb' 0 8 else s.cause) ∧
      t.epc = s.epc ∧ t.badVaddr = s.badVaddr ∧ t.tar = s.tar ∧ t.prid = s.prid)

/-- RFE: bits 3:0 of SR take bits 5:2, every other bit stays, and nothing else changes but the pc's ordinary advance (R292). -/
def Obligations.RfePopsTheStack : Prop :=
  ∀ s : State, isEncoded .rfe 0xFE00003F 0x42000010 ∧ NeedsCop0 s .rfe
    (∃ t, exec .rfe s = .next t ∧ Commits s t ∧ Advances s t ∧ SameHiLo s t ∧ SameDebug s t ∧ SameCache s t ∧ SameMemory s t ∧
      SameOutside s t ∧ t.events = s.events ∧ t.sr = s.sr.extractLsb' 4 28 ++ s.sr.extractLsb' 2 4 ∧ t.cause = s.cause ∧
      t.epc = s.epc ∧ t.badVaddr = s.badVaddr ∧ t.tar = s.tar)

/-- The other COP0 and COP2 forms do nothing after the usability check (R296, R319). -/
def Obligations.CoprocessorNoOperations : Prop :=
  ∀ s : State,
    (∀ i ∈ cop0NoOps, NeedsCop0 s i (∃ t, exec i s = .next t ∧ DoesNothing s t)) ∧
    (∀ i ∈ cop2NoOps, NeedsCop2 s i (∃ t, exec i s = .next t ∧ DoesNothing s t))

/-- Every COP0 instruction in user mode without CU0, and every COP2 instruction, LWC2 and SWC2 without CU2, takes CpU with the
coprocessor's number in Cause.CE and does nothing else, whatever else is wrong with it (R293, R309). That this comes before the
refusal of a coprocessor branch in a delay slot is the model's (log entry 10, DEDUCED). -/
def Obligations.UnusableCoprocessorsTrap : Prop :=
  ∀ (i : Instr) (s : State),
    (opcodeOf i = 0x10 → cop0Usable s = false → ∃ t, exec i s = .next t ∧ Traps s t 11 0 none) ∧
    (opcodeOf i ∈ ([0x12, 0x32, 0x3A] : List Opcode) → cop2Usable s = false →
      ∃ t, exec i s = .next t ∧ Traps s t 11 2 none)

/-- The absent coprocessors 1 and 3 and the loads and stores of 0, 1 and 3: CpU when not usable, refused when usable (R320 to
R322). -/
def Obligations.AbsentCoprocessors : Prop :=
  ∀ (s : State) (rt rs : RegNum) (imm : BitVec 16) (cofun : BitVec 26),
    ∀ x ∈ ([(.cop1 cofun, 0x11, 1), (.cop3 cofun, 0x13, 3), (.lwc0 rt rs imm, 0x30, 0), (.lwc1 rt rs imm, 0x31, 1),
        (.lwc3 rt rs imm, 0x33, 3), (.swc0 rt rs imm, 0x38, 0), (.swc1 rt rs imm, 0x39, 1), (.swc3 rt rs imm, 0x3B, 3)] :
        List (Instr × Opcode × Nat)),
      hasOpcode x.1 x.2.1 ∧
      (usable s x.2.2 = false → ∃ t, exec x.1 s = .next t ∧ Traps s t 11 (BitVec.ofNat 2 x.2.2) none) ∧
      (usable s x.2.2 = true → exec x.1 s = .refused .absentCoprocessor)

/-- The register moves of coprocessor 2 and its commands: the reads are load-delayed answers of the GTE, the writes and commands are
recorded (R311 to R314, R317). -/
def Obligations.GteMoves : Prop :=
  ∀ (s : State) (rt rd : RegNum) (cofun : BitVec 25),
    (isEncoded (.mfc2 rt rd) 0xFFE00000 0x48000000 ∧ isEncoded (.cfc2 rt rd) 0xFFE00000 0x48400000 ∧
      isEncoded (.mtc2 rt rd) 0xFFE00000 0x48800000 ∧ isEncoded (.ctc2 rt rd) 0xFFE00000 0x48C00000 ∧
      isEncoded (.cop2 cofun) 0xFE000000 0x4A000000) ∧
    NeedsCop2 s (.mfc2 rt rd) (∃ t, exec (.mfc2 rt rd) s = .next t ∧
      DelaysLoad s t rt (Config.gteDataAnswer s.events s.draws rd) ∧ LoadFrame s t ∧ t.events = .gteReadData rd :: s.events) ∧
    NeedsCop2 s (.cfc2 rt rd) (∃ t, exec (.cfc2 rt rd) s = .next t ∧
      DelaysLoad s t rt (Config.gteCtrlAnswer s.events s.draws rd) ∧ LoadFrame s t ∧ t.events = .gteReadCtrl rd :: s.events) ∧
    (∀ x ∈ ([(.mtc2 rt rd, .gteWriteData rd (s.reg rt)), (.ctc2 rt rd, .gteWriteCtrl rd (s.reg rt)),
        (.cop2 cofun, .gteCommand cofun)] : List (Instr × Event)),
      NeedsCop2 s x.1 (∃ t, exec x.1 s = .next t ∧ Commits s t ∧ LoadFrame s t ∧ t.events = x.2 :: s.events))

/-- LWC2 and SWC2: the word read goes to the GTE and to no register, and the GTE's answer is stored as SW stores its register; a
misaligned or forbidden address takes AdEL or AdES, after the usability check (R315, R316). Which external bytes read as last
stored, and that a write to a ROM region, or to no region, changes no byte, is the model's (log entries 1, DEDUCED, and 3,
PRESUMED). -/
def Obligations.GteTransfers : Prop :=
  ∀ (s : State) (rt rs : RegNum) (imm : BitVec 16),
    let a := address s rs imm
    let d := Config.gteDataAnswer s.events s.draws rt
    hasOpcode (.lwc2 rt rs imm) 0x32 ∧ hasOpcode (.swc2 rt rs imm) 0x3A ∧
    NeedsCop2 s (.lwc2 rt rs imm)
      ((¬aligned 4 a ∨ ¬allowed s a → ∃ t, exec (.lwc2 rt rs imm) s = .next t ∧ Traps s t 4 2 (some a)) ∧
      (aligned 4 a → allowed s a →
        ∃ t m, exec (.lwc2 rt rs imm) s = .next t ∧ ReadsFrom s (phys a) 4 m ∧ Commits s t ∧ LoadFrame s t ∧
          t.events = .gteWriteData rt m :: readEvents s (phys a) 4)) ∧
    NeedsCop2 s (.swc2 rt rs imm)
      ((¬aligned 4 a ∨ ¬allowed s a → ∃ t, exec (.swc2 rt rs imm) s = .next t ∧ Traps s t 5 2 (some a)) ∧
      (aligned 4 a → allowed s a →
        ∃ t, exec (.swc2 rt rs imm) s = .next t ∧ StoreFrame s t ∧
          (s.sr.getLsbD 16 → StoresIsolated s t a 4 d (.gteReadData rt :: s.events)) ∧
          (¬s.sr.getLsbD 16 → phys a ≠ biuPhys → StoresAt s t (phys a) 4 d (.gteReadData rt :: s.events)) ∧
          (¬s.sr.getLsbD 16 → phys a = biuPhys → s.ic.wf →
            BiuTakes s t d ∧ SameMemory s t ∧ t.events = .gteReadData rt :: s.events)))

/-! ## Exceptions (60_exceptions.md) -/

/-- Trap entry, for every cause: what it saves and where it goes, and that it changes nothing else (R370, R376 to R382). -/
def Obligations.TrapEntryEffects : Prop :=
  ∀ (s : State) (ce : BitVec 2) (a : Word),
    ∀ x ∈ ([(.int, 0, none), (.adEL a, 4, some a), (.adES a, 5, some a), (.sys, 8, none), (.bp, 9, none), (.ri, 10, none),
        (.cpU, 11, none), (.ov, 12, none)] : List (Exc × BitVec 5 × Option Word)),
      Traps s (s.trapEntry x.1 ce) x.2.1 ce x.2.2

/-- A return right after a trap restores the interrupted mode and interrupt enable, and the pair before them (R292, R381, R383). -/
def Obligations.ReturnUndoesTrap : Prop :=
  ∀ (s : State) (e : Exc) (ce : BitVec 2),
    (s.trapEntry e ce).returnFromException.sr.extractLsb' 0 4 = s.sr.extractLsb' 0 4 ∧
    (s.trapEntry e ce).returnFromException.sr.extractLsb' 6 26 = s.sr.extractLsb' 6 26 ∧
    (s.trapEntry e ce).sr.getLsbD 0 = false ∧ (s.trapEntry e ce).sr.getLsbD 1 = false

/-- EPC, BadVaddr, TAR and the exception fields of Cause are written by trap entry alone: an instruction that completes either
leaves them (Cause but for the software interrupt bits) or takes an exception (R31, R33 to R35). -/
def Obligations.OnlyTrapsWriteExceptionRegisters : Prop :=
  ∀ (i : Instr) (s t : State), exec i s = .next t →
    (t.epc = s.epc ∧ t.badVaddr = s.badVaddr ∧ t.tar = s.tar ∧ t.cause &&& 0xFFFFFCFF = s.cause &&& 0xFFFFFCFF) ∨
    (∃ code badv, TrapWrites s t code ((opcodeOf i).extractLsb' 0 2) badv)

/-- The codes a step can record: one that changes the exception code recorded in Cause records 0, 4, 5 or 8 to 12, never a TLB or
bus-error code and never an unused one (R63, R370). -/
def Obligations.ExceptionCodesRaised : Prop :=
  ∀ s t : State, step s = .next t →
    t.cause.extractLsb' 2 5 = s.cause.extractLsb' 2 5 ∨
      t.cause.extractLsb' 2 5 ∈ ([0, 4, 5, 8, 9, 10, 11, 12] : List (BitVec 5))

/-- In user mode without CU0 no instruction changes a coprocessor-0 register or BIU but by taking an exception, which enters
kernel mode at the vector (R64, R293, R391). -/
def Obligations.UserModeCannotChangeSystemState : Prop :=
  ∀ (i : Instr) (s t : State), s.sr.getLsbD 1 → ¬s.sr.getLsbD 28 → s.params.userKsegFault = true → exec i s = .next t →
    t.biu = s.biu ∧ SameDebug s t ∧
      (SameExc s t ∨ (∃ code badv, TrapWrites s t code ((opcodeOf i).extractLsb' 0 2) badv))

/-- `assert_irq`: line n is Cause bit 10 + n; no other bit and no other state changes; a line above 5 is refused (R385). -/
def Obligations.AssertIrqEffects : Prop :=
  ∀ (line : Nat) (asserted : Bool) (s : State),
    (line ≤ 5 → ∃ c, assertIrq line asserted s = .next { s with cause := c } ∧
      ∀ j < 32, c.getLsbD j = if j = 10 + line then asserted else s.cause.getLsbD j) ∧
    (5 < line → assertIrq line asserted s = .refused .irqLineOutOfRange)

/-! ## Reset and invariants (70_reset_and_hazards.md) -/

/-- The state after reset (R420): the values of the rule's table, the first fetch uncached; a machine reset of any state gives the
same but leaves what is outside the core. That it keeps the record of requests, the step count and the parameters, and gives the
video block its defaults, is the model's (log entry 17, DEDUCED). -/
def Obligations.ResetValues : Prop :=
  (∀ r, State.reset.reg r = 0) ∧ State.reset.pc = 0xBFC00000 ∧ State.reset.npc = 0xBFC00004 ∧ State.reset.bd = false ∧
  State.reset.bt = false ∧ State.reset.hi = 0 ∧ State.reset.lo = 0 ∧ State.reset.ld = none ∧ State.reset.sr = 0x00600000 ∧
  State.reset.cause = 0 ∧ State.reset.epc = 0 ∧ State.reset.badVaddr = 0 ∧ State.reset.tar = 0 ∧ State.reset.prid = 2 ∧
  State.reset.bpc = 0 ∧ State.reset.bda = 0 ∧ State.reset.bdam = 0 ∧ State.reset.bpcm = 0 ∧ State.reset.dcic = 0 ∧
  State.reset.biu = 0 ∧ (∀ i, State.reset.ic.read i = ⟨3, 0⟩) ∧ (∀ o, State.reset.scratch.read o = 0) ∧
  State.reset.intPending = false ∧ State.reset.timestamp = 0 ∧ cachedFetch State.reset = false ∧
  (∀ s, (machineReset s).mem = s.mem ∧ (machineReset s).events = s.events ∧ (machineReset s).draws = s.draws ∧
    (machineReset s).params = s.params ∧
    { machineReset s with mem := [], events := [], draws := 0, params := Params.default } = State.reset)

/-- The invariant holds after reset. -/
def Obligations.ResetSatisfiesInv : Prop := Safety.Inv State.reset

/-- Every step keeps the invariant: r0 zero, the pc pair in order, the reserved bits of SR, Cause, DCIC and BIU zero, PRID fixed,
the cache poison equal to the cache's being disabled, and every table in canonical form (R21, R29, R31, R36, R41, R43, R144). -/
def Obligations.StepKeepsInv : Prop := ∀ s t : State, Safety.Inv s → step s = .next t → Safety.Inv t

/-- The host's calls between steps keep the invariant: interrupt lines, register writes, memory pokes and machine reset (R77, R148,
R385, R420). -/
def Obligations.HostCallsKeepInv : Prop :=
  ∀ s t : State, Safety.Inv s →
    (∀ line b, assertIrq line b s = .next t → Safety.Inv t) ∧ (∀ id v, setRegister id v s = .next t → Safety.Inv t) ∧
    (∀ a b, Safety.Inv (pokeMemory a b s)) ∧ Safety.Inv (machineReset s)

/-- A poke changes the addressed byte alone, in the scratchpad or in a memory-like region, and no other state: no event, no time, no
cache entry (R77); a peek then shows it. -/
def Obligations.PokeChangesOneByte : Prop :=
  ∀ (s : State) (a : Word) (b : Byte), inScratch (phys a) = true ∨ (s.regionOf (phys a) 1).isSome = true →
    peekMemory a (pokeMemory a b s) = b ∧
    pokeMemory a b s = { s with mem := (pokeMemory a b s).mem, scratch := (pokeMemory a b s).scratch } ∧
    (∀ a' : Word, phys a' ≠ phys a → peekMemory a' (pokeMemory a b s) = peekMemory a' s)

/-! ## The video block (50_ppu_scanline.md) -/

/-- Pixel resolution: transparent sprite pixels count for nothing; with no opaque one the background shows; else the opaque one with
the least key shows, unless its background-priority bit is set over an opaque background (R351). Keys are distinct OAM indexes. -/
def Obligations.PixelResolution : Prop :=
  ∀ (prio : SpritePriority) (bg : BgPixel) (cands : List SpritePixel),
    ((∀ c ∈ cands, c.ci = 0) → resolveLookup prio bg cands = (bg.layer, bg.palette, bg.ci)) ∧
    (∀ w ∈ cands, w.ci ≠ 0 →
      (∀ c ∈ cands, c.ci ≠ 0 → c ≠ w →
        match prio with
        | .oamIndex => w.oamIndex < c.oamIndex
        | .xPosition => w.x < c.x ∨ (w.x = c.x ∧ w.oamIndex < c.oamIndex)) →
      resolveLookup prio bg cands =
        if w.bgp = true ∧ bg.ci ≠ 0 then (bg.layer, bg.palette, bg.ci) else (.sprite, w.palette, w.ci))

/-- `advance` is re-entrant: advancing to t1 and then to t2 is advancing to t2; a target already past is refused (R354). -/
def Obligations.PpuAdvanceComposes : Prop :=
  ∀ (env : PpuEnv) (prio : SpritePriority) (p : Ppu) (t1 t2 : Nat),
    (t1 < p.now → ppuAdvance env prio t1 p = .error .ppuTargetInPast) ∧
    (p.now ≤ t1 → t1 ≤ t2 →
      ∃ q, ppuAdvance env prio t1 p = .ok q ∧ q.now = t1 ∧ ppuAdvance env prio t2 q = ppuAdvance env prio t2 p)

/-- The sprite list of a line (R349): exactly the entries of the first ten OAM indexes, in OAM order, whose sprites cover the line,
each with the x-position, OAM offset, tile line and attributes of its sprite, not yet loaded; ascending by x-position with ties by
OAM index, each index at most once. The vertical test and the OAM format are the model's (log entry 13), and so are the offset and
the reading of the tile line at the search (log entry 20). -/
def Obligations.SpriteListSorted : Prop :=
  ∀ (env : PpuEnv) (p : Ppu),
    (oamSearch env p).length ≤ 10 ∧
    (oamSearch env p).Pairwise (fun a b => a.x < b.x ∨ (a.x = b.x ∧ a.priorityId < b.priorityId)) ∧
    ∀ e, e ∈ oamSearch env p ↔
      ∃ i < env.oamEntries, onLine env p i = true ∧ ((List.range i).filter (onLine env p)).length < 10 ∧ e = listedSprite env p i

/-- The engine's transitions are the eleven of the diagram and no others: mode 2 leads to mode-3-start, the mode-3 states to
tile-fetch, tile-fetch to the sprite and window ramps or the end of the line, and the blanks back to mode 2 (R343 to R348; that
tile-fetch alone leads to the end of the line is the model's, log entry 12). A started window lasts until the cursor is at the
right edge, through every cycle and every register write; and a write that disables the window before it is requested keeps it
from being requested on that line, whatever is written later (R353; the latter's reading is log entry 19's). -/
def Obligations.PpuTransitionsLegal : Prop :=
  ∀ (env : PpuEnv) (prio : SpritePriority) (p : Ppu),
    (∀ q, ppuTransition env p = some q →
      (p.mode, q.mode) ∈
        ([(.mode2Line0, .mode3Start), (.mode2LineN, .mode3Start), (.mode3Start, .mode3TileFetch),
          (.mode3TileFetch, .mode3LoadSprite), (.mode3TileFetch, .mode3StartWindow), (.mode3TileFetch, .endOfLine),
          (.mode3LoadSprite, .mode3TileFetch), (.mode3StartWindow, .mode3TileFetch), (.endOfLine, .mode2LineN),
          (.endOfLine, .vblank), (.vblank, .mode2Line0)] : List (PpuMode × PpuMode))) ∧
    (p.winStarted = true → ppuModeNumber p.mode = 3 → ∀ n, (∀ m < n, (ppuRun env prio m p).xpos < env.lineWidth) →
      (ppuRun env prio n p).winStarted = true ∧ ppuModeNumber (ppuRun env prio n p).mode = 3) ∧
    (∀ reg value, (ppuApplyWrite env reg value p).winStarted = p.winStarted ∧
      (ppuApplyWrite env reg value p).winRequested = p.winRequested ∧ (ppuApplyWrite env reg value p).mode = p.mode ∧
      (ppuApplyWrite env reg value p).xpos = p.xpos ∧
      (p.lineStart ≤ p.now → env.windowEnabled p.writes = true → env.windowEnabled ((reg, value) :: p.writes) = false →
        windowSuppressed (ppuApplyWrite env reg value p) = true) ∧
      (p.lineStart ≤ p.now → windowSuppressed p = true → windowSuppressed (ppuApplyWrite env reg value p) = true)) ∧
    (windowSuppressed p = true → p.winRequested = false → ∀ n, (ppuRun env prio n p).lineStart = p.lineStart →
      (ppuRun env prio n p).winRequested = false ∧ windowSuppressed (ppuRun env prio n p) = true)

/-! ## The register-dump interface (R49, R148, R358) -/

/-- `get_register` and `set_register`: an id that the parameter REGISTER_IDS does not give is refused; else the register it names is
read, and written with nothing else changed (r0 not at all), after which an interrupt is pending as the formula says (R45, R49,
R148, R358). What a write does beside that (the pc pair, reserved bits, read-only registers) and what an absent register reads is
the model's (log entry 7). -/
def Obligations.RegisterAccess : Prop :=
  ∀ (id : Nat) (v : Word) (s : State),
    (s.params.registerIds.lookup id = none →
      getRegister id s = .error .registerIdOutOfRange ∧ setRegister id v s = .refused .registerIdOutOfRange) ∧
    ∀ r, s.params.registerIds.lookup id = some r →
      getRegister id s = .ok (dumped s r) ∧
      ∃ t, setRegister id v s = .next t ∧ TakesRegister s t r v ∧ (t.intPending = true ↔ interrupted t)
end

