-- ==== Sys2Proof/Laws/Encoding.lean ====
section
/-!
SUPPORT. The fields of the words the encoder writes, format by format, and their bits under the masks of the opcode table.
-/

namespace Sys2Proof

theorem getLsbD_place {n : Nat} (f : BitVec n) (lo i : Nat) :
    (place f lo).getLsbD i = (decide (i < 32) && !decide (i < lo) && f.getLsbD (i - lo)) := by
  simp only [place, BitVec.getLsbD_shiftLeft, BitVec.getLsbD_setWidth]
  by_cases h : i < 32
  · simp [h, show i - lo < 32 by omega]
  · simp [h]

/-! ## The fields of each format (R101 to R107) -/

@[simp] theorem opField_rWord (op : Opcode) (rs rt rd : RegNum) (sa : BitVec 5) (funct : BitVec 6) : opField (rWord op rs rt rd sa funct) = op := by
  apply BitVec.eq_of_getLsbD_eq
  intro i h
  simp only [opField, rWord, BitVec.getLsbD_extractLsb', BitVec.getLsbD_or, getLsbD_place]
  interval_cases i <;> simp

@[simp] theorem rsField_rWord (op : Opcode) (rs rt rd : RegNum) (sa : BitVec 5) (funct : BitVec 6) : rsField (rWord op rs rt rd sa funct) = rs := by
  apply BitVec.eq_of_getLsbD_eq
  intro i h
  simp only [rsField, rWord, BitVec.getLsbD_extractLsb', BitVec.getLsbD_or, getLsbD_place]
  interval_cases i <;> simp

@[simp] theorem rtField_rWord (op : Opcode) (rs rt rd : RegNum) (sa : BitVec 5) (funct : BitVec 6) : rtField (rWord op rs rt rd sa funct) = rt := by
  apply BitVec.eq_of_getLsbD_eq
  intro i h
  simp only [rtField, rWord, BitVec.getLsbD_extractLsb', BitVec.getLsbD_or, getLsbD_place]
  interval_cases i <;> simp

@[simp] theorem rdField_rWord (op : Opcode) (rs rt rd : RegNum) (sa : BitVec 5) (funct : BitVec 6) : rdField (rWord op rs rt rd sa funct) = rd := by
  apply BitVec.eq_of_getLsbD_eq
  intro i h
  simp only [rdField, rWord, BitVec.getLsbD_extractLsb', BitVec.getLsbD_or, getLsbD_place]
  interval_cases i <;> simp

@[simp] theorem saField_rWord (op : Opcode) (rs rt rd : RegNum) (sa : BitVec 5) (funct : BitVec 6) : saField (rWord op rs rt rd sa funct) = sa := by
  apply BitVec.eq_of_getLsbD_eq
  intro i h
  simp only [saField, rWord, BitVec.getLsbD_extractLsb', BitVec.getLsbD_or, getLsbD_place]
  interval_cases i <;> simp

@[simp] theorem functField_rWord (op : Opcode) (rs rt rd : RegNum) (sa : BitVec 5) (funct : BitVec 6) : functField (rWord op rs rt rd sa funct) = funct := by
  apply BitVec.eq_of_getLsbD_eq
  intro i h
  simp only [functField, rWord, BitVec.getLsbD_extractLsb', BitVec.getLsbD_or, getLsbD_place]
  interval_cases i <;> simp

@[simp] theorem opField_iWord (op : Opcode) (rs rt : RegNum) (imm : BitVec 16) : opField (iWord op rs rt imm) = op := by
  apply BitVec.eq_of_getLsbD_eq
  intro i h
  simp only [opField, iWord, BitVec.getLsbD_extractLsb', BitVec.getLsbD_or, getLsbD_place]
  interval_cases i <;> simp

@[simp] theorem rsField_iWord (op : Opcode) (rs rt : RegNum) (imm : BitVec 16) : rsField (iWord op rs rt imm) = rs := by
  apply BitVec.eq_of_getLsbD_eq
  intro i h
  simp only [rsField, iWord, BitVec.getLsbD_extractLsb', BitVec.getLsbD_or, getLsbD_place]
  interval_cases i <;> simp

@[simp] theorem rtField_iWord (op : Opcode) (rs rt : RegNum) (imm : BitVec 16) : rtField (iWord op rs rt imm) = rt := by
  apply BitVec.eq_of_getLsbD_eq
  intro i h
  simp only [rtField, iWord, BitVec.getLsbD_extractLsb', BitVec.getLsbD_or, getLsbD_place]
  interval_cases i <;> simp

@[simp] theorem immField_iWord (op : Opcode) (rs rt : RegNum) (imm : BitVec 16) : immField (iWord op rs rt imm) = imm := by
  apply BitVec.eq_of_getLsbD_eq
  intro i h
  simp only [immField, iWord, BitVec.getLsbD_extractLsb', BitVec.getLsbD_or, getLsbD_place]
  interval_cases i <;> simp

@[simp] theorem opField_jWord (op : Opcode) (target : BitVec 26) : opField (jWord op target) = op := by
  apply BitVec.eq_of_getLsbD_eq
  intro i h
  simp only [opField, jWord, BitVec.getLsbD_extractLsb', BitVec.getLsbD_or, getLsbD_place]
  interval_cases i <;> simp

@[simp] theorem targetField_jWord (op : Opcode) (target : BitVec 26) : targetField (jWord op target) = target := by
  apply BitVec.eq_of_getLsbD_eq
  intro i h
  simp only [targetField, jWord, BitVec.getLsbD_extractLsb', BitVec.getLsbD_or, getLsbD_place]
  interval_cases i <;> simp

@[simp] theorem opField_codeWord (code : BitVec 20) (funct : BitVec 6) : opField (codeWord code funct) = Op.special := by
  apply BitVec.eq_of_getLsbD_eq
  intro i h
  simp only [opField, codeWord, BitVec.getLsbD_extractLsb', BitVec.getLsbD_or, getLsbD_place]
  interval_cases i <;> simp

@[simp] theorem functField_codeWord (code : BitVec 20) (funct : BitVec 6) : functField (codeWord code funct) = funct := by
  apply BitVec.eq_of_getLsbD_eq
  intro i h
  simp only [functField, codeWord, BitVec.getLsbD_extractLsb', BitVec.getLsbD_or, getLsbD_place]
  interval_cases i <;> simp

@[simp] theorem codeField_codeWord (code : BitVec 20) (funct : BitVec 6) : codeField (codeWord code funct) = code := by
  apply BitVec.eq_of_getLsbD_eq
  intro i h
  simp only [codeField, codeWord, BitVec.getLsbD_extractLsb', BitVec.getLsbD_or, getLsbD_place]
  interval_cases i <;> simp

@[simp] theorem opField_cofunWord (op : Opcode) (cofun : BitVec 25) : opField (cofunWord op cofun) = op := by
  apply BitVec.eq_of_getLsbD_eq
  intro i h
  simp only [opField, cofunWord, BitVec.getLsbD_extractLsb', BitVec.getLsbD_or, getLsbD_place]
  interval_cases i <;> simp

@[simp] theorem cofunField_cofunWord (op : Opcode) (cofun : BitVec 25) : cofunField (cofunWord op cofun) = cofun := by
  apply BitVec.eq_of_getLsbD_eq
  intro i h
  simp only [cofunField, cofunWord, BitVec.getLsbD_extractLsb', BitVec.getLsbD_or, getLsbD_place]
  interval_cases i <;> simp

@[simp] theorem condField_iWord (op : Opcode) (rs rt : RegNum) (imm : BitVec 16) :
    condField (iWord op rs rt imm) = rt.getLsbD 0 := by
  simp only [condField, iWord, BitVec.getLsbD_or, getLsbD_place]
  simp

theorem rsField_cofunWord (op : Opcode) (cofun : BitVec 25) :
    rsField (cofunWord op cofun) = 1#1 ++ cofun.extractLsb' 21 4 := by
  apply BitVec.eq_of_getLsbD_eq
  intro i h
  simp only [rsField, cofunWord, BitVec.getLsbD_extractLsb', BitVec.getLsbD_or, getLsbD_place, BitVec.getLsbD_append]
  interval_cases i <;> simp

/-! ## The bits under the masks of the table -/

theorem rWord_and_fc00003f (op : Opcode) (rs rt rd : RegNum) (sa : BitVec 5) (funct : BitVec 6) :
    rWord op rs rt rd sa funct &&& 0xFC00003F = rWord op 0 0 0 0 funct := by
  apply BitVec.eq_of_getLsbD_eq
  intro i h
  simp only [rWord, BitVec.getLsbD_or, BitVec.getLsbD_and, getLsbD_place]
  interval_cases i <;> simp

theorem rWord_and_ffe00000 (op : Opcode) (rs rt rd : RegNum) (sa : BitVec 5) (funct : BitVec 6) :
    rWord op rs rt rd sa funct &&& 0xFFE00000 = rWord op rs 0 0 0 0 := by
  apply BitVec.eq_of_getLsbD_eq
  intro i h
  simp only [rWord, BitVec.getLsbD_or, BitVec.getLsbD_and, getLsbD_place]
  interval_cases i <;> simp

theorem iWord_and_fc1f0000 (op : Opcode) (rs rt : RegNum) (imm : BitVec 16) :
    iWord op rs rt imm &&& 0xFC1F0000 = iWord op 0 rt 0 := by
  apply BitVec.eq_of_getLsbD_eq
  intro i h
  simp only [iWord, BitVec.getLsbD_or, BitVec.getLsbD_and, getLsbD_place]
  interval_cases i <;> simp

theorem iWord_and_fc000000 (op : Opcode) (rs rt : RegNum) (imm : BitVec 16) :
    iWord op rs rt imm &&& 0xFC000000 = iWord op 0 0 0 := by
  apply BitVec.eq_of_getLsbD_eq
  intro i h
  simp only [iWord, BitVec.getLsbD_or, BitVec.getLsbD_and, getLsbD_place]
  interval_cases i <;> simp

theorem iWord_and_ffe10000 (op : Opcode) (rs rt : RegNum) (imm : BitVec 16) :
    iWord op rs rt imm &&& 0xFFE10000 = iWord op rs (rt &&& 1) 0 := by
  apply BitVec.eq_of_getLsbD_eq
  intro i h
  simp only [iWord, BitVec.getLsbD_or, BitVec.getLsbD_and, getLsbD_place]
  interval_cases i <;> simp

theorem jWord_and_fc000000 (op : Opcode) (target : BitVec 26) :
    jWord op target &&& 0xFC000000 = jWord op 0 := by
  apply BitVec.eq_of_getLsbD_eq
  intro i h
  simp only [jWord, BitVec.getLsbD_or, BitVec.getLsbD_and, getLsbD_place]
  interval_cases i <;> simp

theorem codeWord_and_fc00003f (code : BitVec 20) (funct : BitVec 6) :
    codeWord code funct &&& 0xFC00003F = codeWord 0 funct := by
  apply BitVec.eq_of_getLsbD_eq
  intro i h
  simp only [codeWord, BitVec.getLsbD_or, BitVec.getLsbD_and, getLsbD_place]
  interval_cases i <;> simp

theorem cofunWord_and_fe000000 (op : Opcode) (cofun : BitVec 25) :
    cofunWord op cofun &&& 0xFE000000 = cofunWord op 0 := by
  apply BitVec.eq_of_getLsbD_eq
  intro i h
  simp only [cofunWord, BitVec.getLsbD_or, BitVec.getLsbD_and, getLsbD_place]
  interval_cases i <;> simp

end Sys2Proof
end

