-- ==== Sys2Proof/Laws/State.lean ====
section
/-!
SUPPORT. What each update of the state does to each of its fields: one lemma per field per update, so that no proof unfolds a
record update.
-/

namespace Sys2Proof.Machine

/-! ## The r0 re-zero (R131) -/

@[simp] theorem zeroR0_regs (s : State) : s.zeroR0.regs = s.regs.set 0 0 := rfl
@[simp] theorem zeroR0_pc (s : State) : s.zeroR0.pc = s.pc := rfl
@[simp] theorem zeroR0_npc (s : State) : s.zeroR0.npc = s.npc := rfl
@[simp] theorem zeroR0_bd (s : State) : s.zeroR0.bd = s.bd := rfl
@[simp] theorem zeroR0_bt (s : State) : s.zeroR0.bt = s.bt := rfl
@[simp] theorem zeroR0_hi (s : State) : s.zeroR0.hi = s.hi := rfl
@[simp] theorem zeroR0_lo (s : State) : s.zeroR0.lo = s.lo := rfl
@[simp] theorem zeroR0_ld (s : State) : s.zeroR0.ld = s.ld := rfl
@[simp] theorem zeroR0_readAbsorb (s : State) : s.zeroR0.readAbsorb = s.readAbsorb := rfl
@[simp] theorem zeroR0_sr (s : State) : s.zeroR0.sr = s.sr := rfl
@[simp] theorem zeroR0_cause (s : State) : s.zeroR0.cause = s.cause := rfl
@[simp] theorem zeroR0_epc (s : State) : s.zeroR0.epc = s.epc := rfl
@[simp] theorem zeroR0_badVaddr (s : State) : s.zeroR0.badVaddr = s.badVaddr := rfl
@[simp] theorem zeroR0_tar (s : State) : s.zeroR0.tar = s.tar := rfl
@[simp] theorem zeroR0_prid (s : State) : s.zeroR0.prid = s.prid := rfl
@[simp] theorem zeroR0_bpc (s : State) : s.zeroR0.bpc = s.bpc := rfl
@[simp] theorem zeroR0_bda (s : State) : s.zeroR0.bda = s.bda := rfl
@[simp] theorem zeroR0_bdam (s : State) : s.zeroR0.bdam = s.bdam := rfl
@[simp] theorem zeroR0_bpcm (s : State) : s.zeroR0.bpcm = s.bpcm := rfl
@[simp] theorem zeroR0_dcic (s : State) : s.zeroR0.dcic = s.dcic := rfl
@[simp] theorem zeroR0_biu (s : State) : s.zeroR0.biu = s.biu := rfl
@[simp] theorem zeroR0_ic (s : State) : s.zeroR0.ic = s.ic := rfl
@[simp] theorem zeroR0_scratch (s : State) : s.zeroR0.scratch = s.scratch := rfl
@[simp] theorem zeroR0_mem (s : State) : s.zeroR0.mem = s.mem := rfl
@[simp] theorem zeroR0_events (s : State) : s.zeroR0.events = s.events := rfl
@[simp] theorem zeroR0_timestamp (s : State) : s.zeroR0.timestamp = s.timestamp := rfl
@[simp] theorem zeroR0_draws (s : State) : s.zeroR0.draws = s.draws := rfl
@[simp] theorem zeroR0_params (s : State) : s.zeroR0.params = s.params := rfl
@[simp] theorem zeroR0_ppu (s : State) : s.zeroR0.ppu = s.ppu := rfl

/-! ## A register write (R12) -/

@[simp] theorem setReg_regs (s : State) (r : RegNum) (v : Word) : (s.setReg r v).regs = writeRegs s.regs r v := rfl
@[simp] theorem setReg_pc (s : State) (r : RegNum) (v : Word) : (s.setReg r v).pc = s.pc := rfl
@[simp] theorem setReg_npc (s : State) (r : RegNum) (v : Word) : (s.setReg r v).npc = s.npc := rfl
@[simp] theorem setReg_bd (s : State) (r : RegNum) (v : Word) : (s.setReg r v).bd = s.bd := rfl
@[simp] theorem setReg_bt (s : State) (r : RegNum) (v : Word) : (s.setReg r v).bt = s.bt := rfl
@[simp] theorem setReg_hi (s : State) (r : RegNum) (v : Word) : (s.setReg r v).hi = s.hi := rfl
@[simp] theorem setReg_lo (s : State) (r : RegNum) (v : Word) : (s.setReg r v).lo = s.lo := rfl
@[simp] theorem setReg_ld (s : State) (r : RegNum) (v : Word) : (s.setReg r v).ld = s.ld := rfl
@[simp] theorem setReg_readAbsorb (s : State) (r : RegNum) (v : Word) : (s.setReg r v).readAbsorb = s.readAbsorb := rfl
@[simp] theorem setReg_sr (s : State) (r : RegNum) (v : Word) : (s.setReg r v).sr = s.sr := rfl
@[simp] theorem setReg_cause (s : State) (r : RegNum) (v : Word) : (s.setReg r v).cause = s.cause := rfl
@[simp] theorem setReg_epc (s : State) (r : RegNum) (v : Word) : (s.setReg r v).epc = s.epc := rfl
@[simp] theorem setReg_badVaddr (s : State) (r : RegNum) (v : Word) : (s.setReg r v).badVaddr = s.badVaddr := rfl
@[simp] theorem setReg_tar (s : State) (r : RegNum) (v : Word) : (s.setReg r v).tar = s.tar := rfl
@[simp] theorem setReg_prid (s : State) (r : RegNum) (v : Word) : (s.setReg r v).prid = s.prid := rfl
@[simp] theorem setReg_bpc (s : State) (r : RegNum) (v : Word) : (s.setReg r v).bpc = s.bpc := rfl
@[simp] theorem setReg_bda (s : State) (r : RegNum) (v : Word) : (s.setReg r v).bda = s.bda := rfl
@[simp] theorem setReg_bdam (s : State) (r : RegNum) (v : Word) : (s.setReg r v).bdam = s.bdam := rfl
@[simp] theorem setReg_bpcm (s : State) (r : RegNum) (v : Word) : (s.setReg r v).bpcm = s.bpcm := rfl
@[simp] theorem setReg_dcic (s : State) (r : RegNum) (v : Word) : (s.setReg r v).dcic = s.dcic := rfl
@[simp] theorem setReg_biu (s : State) (r : RegNum) (v : Word) : (s.setReg r v).biu = s.biu := rfl
@[simp] theorem setReg_ic (s : State) (r : RegNum) (v : Word) : (s.setReg r v).ic = s.ic := rfl
@[simp] theorem setReg_scratch (s : State) (r : RegNum) (v : Word) : (s.setReg r v).scratch = s.scratch := rfl
@[simp] theorem setReg_mem (s : State) (r : RegNum) (v : Word) : (s.setReg r v).mem = s.mem := rfl
@[simp] theorem setReg_events (s : State) (r : RegNum) (v : Word) : (s.setReg r v).events = s.events := rfl
@[simp] theorem setReg_timestamp (s : State) (r : RegNum) (v : Word) : (s.setReg r v).timestamp = s.timestamp := rfl
@[simp] theorem setReg_draws (s : State) (r : RegNum) (v : Word) : (s.setReg r v).draws = s.draws := rfl
@[simp] theorem setReg_params (s : State) (r : RegNum) (v : Word) : (s.setReg r v).params = s.params := rfl
@[simp] theorem setReg_ppu (s : State) (r : RegNum) (v : Word) : (s.setReg r v).ppu = s.ppu := rfl

/-! ## The commit of the pending load (R136) -/

@[simp] theorem commitLoad_regs (s : State) : s.commitLoad.regs = committedRegs s := rfl
@[simp] theorem commitLoad_pc (s : State) : s.commitLoad.pc = s.pc := rfl
@[simp] theorem commitLoad_npc (s : State) : s.commitLoad.npc = s.npc := rfl
@[simp] theorem commitLoad_bd (s : State) : s.commitLoad.bd = s.bd := rfl
@[simp] theorem commitLoad_bt (s : State) : s.commitLoad.bt = s.bt := rfl
@[simp] theorem commitLoad_hi (s : State) : s.commitLoad.hi = s.hi := rfl
@[simp] theorem commitLoad_lo (s : State) : s.commitLoad.lo = s.lo := rfl
@[simp] theorem commitLoad_ld (s : State) : s.commitLoad.ld = none := rfl
@[simp] theorem commitLoad_readAbsorb (s : State) : s.commitLoad.readAbsorb = s.readAbsorb := rfl
@[simp] theorem commitLoad_sr (s : State) : s.commitLoad.sr = s.sr := rfl
@[simp] theorem commitLoad_cause (s : State) : s.commitLoad.cause = s.cause := rfl
@[simp] theorem commitLoad_epc (s : State) : s.commitLoad.epc = s.epc := rfl
@[simp] theorem commitLoad_badVaddr (s : State) : s.commitLoad.badVaddr = s.badVaddr := rfl
@[simp] theorem commitLoad_tar (s : State) : s.commitLoad.tar = s.tar := rfl
@[simp] theorem commitLoad_prid (s : State) : s.commitLoad.prid = s.prid := rfl
@[simp] theorem commitLoad_bpc (s : State) : s.commitLoad.bpc = s.bpc := rfl
@[simp] theorem commitLoad_bda (s : State) : s.commitLoad.bda = s.bda := rfl
@[simp] theorem commitLoad_bdam (s : State) : s.commitLoad.bdam = s.bdam := rfl
@[simp] theorem commitLoad_bpcm (s : State) : s.commitLoad.bpcm = s.bpcm := rfl
@[simp] theorem commitLoad_dcic (s : State) : s.commitLoad.dcic = s.dcic := rfl
@[simp] theorem commitLoad_biu (s : State) : s.commitLoad.biu = s.biu := rfl
@[simp] theorem commitLoad_ic (s : State) : s.commitLoad.ic = s.ic := rfl
@[simp] theorem commitLoad_scratch (s : State) : s.commitLoad.scratch = s.scratch := rfl
@[simp] theorem commitLoad_mem (s : State) : s.commitLoad.mem = s.mem := rfl
@[simp] theorem commitLoad_events (s : State) : s.commitLoad.events = s.events := rfl
@[simp] theorem commitLoad_timestamp (s : State) : s.commitLoad.timestamp = s.timestamp := rfl
@[simp] theorem commitLoad_draws (s : State) : s.commitLoad.draws = s.draws := rfl
@[simp] theorem commitLoad_params (s : State) : s.commitLoad.params = s.params := rfl
@[simp] theorem commitLoad_ppu (s : State) : s.commitLoad.ppu = s.ppu := rfl

/-! ## A load-delayed result (R135) -/

@[simp] theorem loadDelayed_regs (s : State) (r : RegNum) (v : Word) : (s.loadDelayed r v).regs = committedRegsUnlessTo s r := rfl
@[simp] theorem loadDelayed_pc (s : State) (r : RegNum) (v : Word) : (s.loadDelayed r v).pc = s.pc := rfl
@[simp] theorem loadDelayed_npc (s : State) (r : RegNum) (v : Word) : (s.loadDelayed r v).npc = s.npc := rfl
@[simp] theorem loadDelayed_bd (s : State) (r : RegNum) (v : Word) : (s.loadDelayed r v).bd = s.bd := rfl
@[simp] theorem loadDelayed_bt (s : State) (r : RegNum) (v : Word) : (s.loadDelayed r v).bt = s.bt := rfl
@[simp] theorem loadDelayed_hi (s : State) (r : RegNum) (v : Word) : (s.loadDelayed r v).hi = s.hi := rfl
@[simp] theorem loadDelayed_lo (s : State) (r : RegNum) (v : Word) : (s.loadDelayed r v).lo = s.lo := rfl
@[simp] theorem loadDelayed_ld (s : State) (r : RegNum) (v : Word) : (s.loadDelayed r v).ld = some ⟨r, v⟩ := rfl
@[simp] theorem loadDelayed_readAbsorb (s : State) (r : RegNum) (v : Word) : (s.loadDelayed r v).readAbsorb = s.readAbsorb := rfl
@[simp] theorem loadDelayed_sr (s : State) (r : RegNum) (v : Word) : (s.loadDelayed r v).sr = s.sr := rfl
@[simp] theorem loadDelayed_cause (s : State) (r : RegNum) (v : Word) : (s.loadDelayed r v).cause = s.cause := rfl
@[simp] theorem loadDelayed_epc (s : State) (r : RegNum) (v : Word) : (s.loadDelayed r v).epc = s.epc := rfl
@[simp] theorem loadDelayed_badVaddr (s : State) (r : RegNum) (v : Word) : (s.loadDelayed r v).badVaddr = s.badVaddr := rfl
@[simp] theorem loadDelayed_tar (s : State) (r : RegNum) (v : Word) : (s.loadDelayed r v).tar = s.tar := rfl
@[simp] theorem loadDelayed_prid (s : State) (r : RegNum) (v : Word) : (s.loadDelayed r v).prid = s.prid := rfl
@[simp] theorem loadDelayed_bpc (s : State) (r : RegNum) (v : Word) : (s.loadDelayed r v).bpc = s.bpc := rfl
@[simp] theorem loadDelayed_bda (s : State) (r : RegNum) (v : Word) : (s.loadDelayed r v).bda = s.bda := rfl
@[simp] theorem loadDelayed_bdam (s : State) (r : RegNum) (v : Word) : (s.loadDelayed r v).bdam = s.bdam := rfl
@[simp] theorem loadDelayed_bpcm (s : State) (r : RegNum) (v : Word) : (s.loadDelayed r v).bpcm = s.bpcm := rfl
@[simp] theorem loadDelayed_dcic (s : State) (r : RegNum) (v : Word) : (s.loadDelayed r v).dcic = s.dcic := rfl
@[simp] theorem loadDelayed_biu (s : State) (r : RegNum) (v : Word) : (s.loadDelayed r v).biu = s.biu := rfl
@[simp] theorem loadDelayed_ic (s : State) (r : RegNum) (v : Word) : (s.loadDelayed r v).ic = s.ic := rfl
@[simp] theorem loadDelayed_scratch (s : State) (r : RegNum) (v : Word) : (s.loadDelayed r v).scratch = s.scratch := rfl
@[simp] theorem loadDelayed_mem (s : State) (r : RegNum) (v : Word) : (s.loadDelayed r v).mem = s.mem := rfl
@[simp] theorem loadDelayed_events (s : State) (r : RegNum) (v : Word) : (s.loadDelayed r v).events = s.events := rfl
@[simp] theorem loadDelayed_timestamp (s : State) (r : RegNum) (v : Word) : (s.loadDelayed r v).timestamp = s.timestamp := rfl
@[simp] theorem loadDelayed_draws (s : State) (r : RegNum) (v : Word) : (s.loadDelayed r v).draws = s.draws := rfl
@[simp] theorem loadDelayed_params (s : State) (r : RegNum) (v : Word) : (s.loadDelayed r v).params = s.params := rfl
@[simp] theorem loadDelayed_ppu (s : State) (r : RegNum) (v : Word) : (s.loadDelayed r v).ppu = s.ppu := rfl

/-! ## The advance of the pc pair (R143) -/

@[simp] theorem advance_regs (s : State) : s.advance.regs = s.regs := rfl
@[simp] theorem advance_pc (s : State) : s.advance.pc = s.npc := rfl
@[simp] theorem advance_npc (s : State) : s.advance.npc = s.npc + 4 := rfl
@[simp] theorem advance_bd (s : State) : s.advance.bd = false := rfl
@[simp] theorem advance_bt (s : State) : s.advance.bt = false := rfl
@[simp] theorem advance_hi (s : State) : s.advance.hi = s.hi := rfl
@[simp] theorem advance_lo (s : State) : s.advance.lo = s.lo := rfl
@[simp] theorem advance_ld (s : State) : s.advance.ld = s.ld := rfl
@[simp] theorem advance_readAbsorb (s : State) : s.advance.readAbsorb = s.readAbsorb := rfl
@[simp] theorem advance_sr (s : State) : s.advance.sr = s.sr := rfl
@[simp] theorem advance_cause (s : State) : s.advance.cause = s.cause := rfl
@[simp] theorem advance_epc (s : State) : s.advance.epc = s.epc := rfl
@[simp] theorem advance_badVaddr (s : State) : s.advance.badVaddr = s.badVaddr := rfl
@[simp] theorem advance_tar (s : State) : s.advance.tar = s.tar := rfl
@[simp] theorem advance_prid (s : State) : s.advance.prid = s.prid := rfl
@[simp] theorem advance_bpc (s : State) : s.advance.bpc = s.bpc := rfl
@[simp] theorem advance_bda (s : State) : s.advance.bda = s.bda := rfl
@[simp] theorem advance_bdam (s : State) : s.advance.bdam = s.bdam := rfl
@[simp] theorem advance_bpcm (s : State) : s.advance.bpcm = s.bpcm := rfl
@[simp] theorem advance_dcic (s : State) : s.advance.dcic = s.dcic := rfl
@[simp] theorem advance_biu (s : State) : s.advance.biu = s.biu := rfl
@[simp] theorem advance_ic (s : State) : s.advance.ic = s.ic := rfl
@[simp] theorem advance_scratch (s : State) : s.advance.scratch = s.scratch := rfl
@[simp] theorem advance_mem (s : State) : s.advance.mem = s.mem := rfl
@[simp] theorem advance_events (s : State) : s.advance.events = s.events := rfl
@[simp] theorem advance_timestamp (s : State) : s.advance.timestamp = s.timestamp := rfl
@[simp] theorem advance_draws (s : State) : s.advance.draws = s.draws := rfl
@[simp] theorem advance_params (s : State) : s.advance.params = s.params := rfl
@[simp] theorem advance_ppu (s : State) : s.advance.ppu = s.ppu := rfl

/-! ## A branch (R230) -/

@[simp] theorem delayBranch_regs (s : State) (c : Bool) (t : Word) : (s.delayBranch c t).regs = s.regs := rfl
@[simp] theorem delayBranch_pc (s : State) (c : Bool) (t : Word) : (s.delayBranch c t).pc = s.npc := rfl
@[simp] theorem delayBranch_npc (s : State) (c : Bool) (t : Word) : (s.delayBranch c t).npc = if c then t else s.npc + 4 := rfl
@[simp] theorem delayBranch_bd (s : State) (c : Bool) (t : Word) : (s.delayBranch c t).bd = true := rfl
@[simp] theorem delayBranch_bt (s : State) (c : Bool) (t : Word) : (s.delayBranch c t).bt = c := rfl
@[simp] theorem delayBranch_hi (s : State) (c : Bool) (t : Word) : (s.delayBranch c t).hi = s.hi := rfl
@[simp] theorem delayBranch_lo (s : State) (c : Bool) (t : Word) : (s.delayBranch c t).lo = s.lo := rfl
@[simp] theorem delayBranch_ld (s : State) (c : Bool) (t : Word) : (s.delayBranch c t).ld = s.ld := rfl
@[simp] theorem delayBranch_readAbsorb (s : State) (c : Bool) (t : Word) : (s.delayBranch c t).readAbsorb = s.readAbsorb := rfl
@[simp] theorem delayBranch_sr (s : State) (c : Bool) (t : Word) : (s.delayBranch c t).sr = s.sr := rfl
@[simp] theorem delayBranch_cause (s : State) (c : Bool) (t : Word) : (s.delayBranch c t).cause = s.cause := rfl
@[simp] theorem delayBranch_epc (s : State) (c : Bool) (t : Word) : (s.delayBranch c t).epc = s.epc := rfl
@[simp] theorem delayBranch_badVaddr (s : State) (c : Bool) (t : Word) : (s.delayBranch c t).badVaddr = s.badVaddr := rfl
@[simp] theorem delayBranch_tar (s : State) (c : Bool) (t : Word) : (s.delayBranch c t).tar = s.tar := rfl
@[simp] theorem delayBranch_prid (s : State) (c : Bool) (t : Word) : (s.delayBranch c t).prid = s.prid := rfl
@[simp] theorem delayBranch_bpc (s : State) (c : Bool) (t : Word) : (s.delayBranch c t).bpc = s.bpc := rfl
@[simp] theorem delayBranch_bda (s : State) (c : Bool) (t : Word) : (s.delayBranch c t).bda = s.bda := rfl
@[simp] theorem delayBranch_bdam (s : State) (c : Bool) (t : Word) : (s.delayBranch c t).bdam = s.bdam := rfl
@[simp] theorem delayBranch_bpcm (s : State) (c : Bool) (t : Word) : (s.delayBranch c t).bpcm = s.bpcm := rfl
@[simp] theorem delayBranch_dcic (s : State) (c : Bool) (t : Word) : (s.delayBranch c t).dcic = s.dcic := rfl
@[simp] theorem delayBranch_biu (s : State) (c : Bool) (t : Word) : (s.delayBranch c t).biu = s.biu := rfl
@[simp] theorem delayBranch_ic (s : State) (c : Bool) (t : Word) : (s.delayBranch c t).ic = s.ic := rfl
@[simp] theorem delayBranch_scratch (s : State) (c : Bool) (t : Word) : (s.delayBranch c t).scratch = s.scratch := rfl
@[simp] theorem delayBranch_mem (s : State) (c : Bool) (t : Word) : (s.delayBranch c t).mem = s.mem := rfl
@[simp] theorem delayBranch_events (s : State) (c : Bool) (t : Word) : (s.delayBranch c t).events = s.events := rfl
@[simp] theorem delayBranch_timestamp (s : State) (c : Bool) (t : Word) : (s.delayBranch c t).timestamp = s.timestamp := rfl
@[simp] theorem delayBranch_draws (s : State) (c : Bool) (t : Word) : (s.delayBranch c t).draws = s.draws := rfl
@[simp] theorem delayBranch_params (s : State) (c : Bool) (t : Word) : (s.delayBranch c t).params = s.params := rfl
@[simp] theorem delayBranch_ppu (s : State) (c : Bool) (t : Word) : (s.delayBranch c t).ppu = s.ppu := rfl

/-! ## Taking an exception (R376) -/

@[simp] theorem trapEntry_regs (s : State) (e : Exc) (ce : BitVec 2) : (s.trapEntry e ce).regs = committedRegs s := rfl
@[simp] theorem trapEntry_pc (s : State) (e : Exc) (ce : BitVec 2) : (s.trapEntry e ce).pc = vectorOf s := rfl
@[simp] theorem trapEntry_npc (s : State) (e : Exc) (ce : BitVec 2) : (s.trapEntry e ce).npc = vectorOf s + 4 := rfl
@[simp] theorem trapEntry_bd (s : State) (e : Exc) (ce : BitVec 2) : (s.trapEntry e ce).bd = false := rfl
@[simp] theorem trapEntry_bt (s : State) (e : Exc) (ce : BitVec 2) : (s.trapEntry e ce).bt = false := rfl
@[simp] theorem trapEntry_hi (s : State) (e : Exc) (ce : BitVec 2) : (s.trapEntry e ce).hi = s.hi := rfl
@[simp] theorem trapEntry_lo (s : State) (e : Exc) (ce : BitVec 2) : (s.trapEntry e ce).lo = s.lo := rfl
@[simp] theorem trapEntry_ld (s : State) (e : Exc) (ce : BitVec 2) : (s.trapEntry e ce).ld = none := rfl
@[simp] theorem trapEntry_readAbsorb (s : State) (e : Exc) (ce : BitVec 2) : (s.trapEntry e ce).readAbsorb = s.readAbsorb := rfl
@[simp] theorem trapEntry_sr (s : State) (e : Exc) (ce : BitVec 2) : (s.trapEntry e ce).sr = pushStatus s.sr := rfl
@[simp] theorem trapEntry_cause (s : State) (e : Exc) (ce : BitVec 2) : (s.trapEntry e ce).cause = trapCause e ce s := rfl
@[simp] theorem trapEntry_epc (s : State) (e : Exc) (ce : BitVec 2) : (s.trapEntry e ce).epc = if s.bd then s.pc - 4 else s.pc := rfl
@[simp] theorem trapEntry_badVaddr (s : State) (e : Exc) (ce : BitVec 2) : (s.trapEntry e ce).badVaddr = excBadVaddr e s.badVaddr := rfl
@[simp] theorem trapEntry_tar (s : State) (e : Exc) (ce : BitVec 2) : (s.trapEntry e ce).tar = if s.bd then s.npc else s.tar := rfl
@[simp] theorem trapEntry_prid (s : State) (e : Exc) (ce : BitVec 2) : (s.trapEntry e ce).prid = s.prid := rfl
@[simp] theorem trapEntry_bpc (s : State) (e : Exc) (ce : BitVec 2) : (s.trapEntry e ce).bpc = s.bpc := rfl
@[simp] theorem trapEntry_bda (s : State) (e : Exc) (ce : BitVec 2) : (s.trapEntry e ce).bda = s.bda := rfl
@[simp] theorem trapEntry_bdam (s : State) (e : Exc) (ce : BitVec 2) : (s.trapEntry e ce).bdam = s.bdam := rfl
@[simp] theorem trapEntry_bpcm (s : State) (e : Exc) (ce : BitVec 2) : (s.trapEntry e ce).bpcm = s.bpcm := rfl
@[simp] theorem trapEntry_dcic (s : State) (e : Exc) (ce : BitVec 2) : (s.trapEntry e ce).dcic = s.dcic := rfl
@[simp] theorem trapEntry_biu (s : State) (e : Exc) (ce : BitVec 2) : (s.trapEntry e ce).biu = s.biu := rfl
@[simp] theorem trapEntry_ic (s : State) (e : Exc) (ce : BitVec 2) : (s.trapEntry e ce).ic = s.ic := rfl
@[simp] theorem trapEntry_scratch (s : State) (e : Exc) (ce : BitVec 2) : (s.trapEntry e ce).scratch = s.scratch := rfl
@[simp] theorem trapEntry_mem (s : State) (e : Exc) (ce : BitVec 2) : (s.trapEntry e ce).mem = s.mem := rfl
@[simp] theorem trapEntry_events (s : State) (e : Exc) (ce : BitVec 2) : (s.trapEntry e ce).events = s.events := rfl
@[simp] theorem trapEntry_timestamp (s : State) (e : Exc) (ce : BitVec 2) : (s.trapEntry e ce).timestamp = s.timestamp := rfl
@[simp] theorem trapEntry_draws (s : State) (e : Exc) (ce : BitVec 2) : (s.trapEntry e ce).draws = s.draws := rfl
@[simp] theorem trapEntry_params (s : State) (e : Exc) (ce : BitVec 2) : (s.trapEntry e ce).params = s.params := rfl
@[simp] theorem trapEntry_ppu (s : State) (e : Exc) (ce : BitVec 2) : (s.trapEntry e ce).ppu = s.ppu := rfl

/-! ## The return from an exception (R292) -/

@[simp] theorem returnFromException_regs (s : State) : s.returnFromException.regs = s.regs := rfl
@[simp] theorem returnFromException_pc (s : State) : s.returnFromException.pc = s.pc := rfl
@[simp] theorem returnFromException_npc (s : State) : s.returnFromException.npc = s.npc := rfl
@[simp] theorem returnFromException_bd (s : State) : s.returnFromException.bd = s.bd := rfl
@[simp] theorem returnFromException_bt (s : State) : s.returnFromException.bt = s.bt := rfl
@[simp] theorem returnFromException_hi (s : State) : s.returnFromException.hi = s.hi := rfl
@[simp] theorem returnFromException_lo (s : State) : s.returnFromException.lo = s.lo := rfl
@[simp] theorem returnFromException_ld (s : State) : s.returnFromException.ld = s.ld := rfl
@[simp] theorem returnFromException_readAbsorb (s : State) : s.returnFromException.readAbsorb = s.readAbsorb := rfl
@[simp] theorem returnFromException_sr (s : State) : s.returnFromException.sr = popStatus s.sr := rfl
@[simp] theorem returnFromException_cause (s : State) : s.returnFromException.cause = s.cause := rfl
@[simp] theorem returnFromException_epc (s : State) : s.returnFromException.epc = s.epc := rfl
@[simp] theorem returnFromException_badVaddr (s : State) : s.returnFromException.badVaddr = s.badVaddr := rfl
@[simp] theorem returnFromException_tar (s : State) : s.returnFromException.tar = s.tar := rfl
@[simp] theorem returnFromException_prid (s : State) : s.returnFromException.prid = s.prid := rfl
@[simp] theorem returnFromException_bpc (s : State) : s.returnFromException.bpc = s.bpc := rfl
@[simp] theorem returnFromException_bda (s : State) : s.returnFromException.bda = s.bda := rfl
@[simp] theorem returnFromException_bdam (s : State) : s.returnFromException.bdam = s.bdam := rfl
@[simp] theorem returnFromException_bpcm (s : State) : s.returnFromException.bpcm = s.bpcm := rfl
@[simp] theorem returnFromException_dcic (s : State) : s.returnFromException.dcic = s.dcic := rfl
@[simp] theorem returnFromException_biu (s : State) : s.returnFromException.biu = s.biu := rfl
@[simp] theorem returnFromException_ic (s : State) : s.returnFromException.ic = s.ic := rfl
@[simp] theorem returnFromException_scratch (s : State) : s.returnFromException.scratch = s.scratch := rfl
@[simp] theorem returnFromException_mem (s : State) : s.returnFromException.mem = s.mem := rfl
@[simp] theorem returnFromException_events (s : State) : s.returnFromException.events = s.events := rfl
@[simp] theorem returnFromException_timestamp (s : State) : s.returnFromException.timestamp = s.timestamp := rfl
@[simp] theorem returnFromException_draws (s : State) : s.returnFromException.draws = s.draws := rfl
@[simp] theorem returnFromException_params (s : State) : s.returnFromException.params = s.params := rfl
@[simp] theorem returnFromException_ppu (s : State) : s.returnFromException.ppu = s.ppu := rfl

/-! ## An external read (R68) -/

@[simp] theorem extRead_regs (s : State) (p : Word) (n : Nat) : (s.extRead p n).2.regs = s.regs := rfl
@[simp] theorem extRead_pc (s : State) (p : Word) (n : Nat) : (s.extRead p n).2.pc = s.pc := rfl
@[simp] theorem extRead_npc (s : State) (p : Word) (n : Nat) : (s.extRead p n).2.npc = s.npc := rfl
@[simp] theorem extRead_bd (s : State) (p : Word) (n : Nat) : (s.extRead p n).2.bd = s.bd := rfl
@[simp] theorem extRead_bt (s : State) (p : Word) (n : Nat) : (s.extRead p n).2.bt = s.bt := rfl
@[simp] theorem extRead_hi (s : State) (p : Word) (n : Nat) : (s.extRead p n).2.hi = s.hi := rfl
@[simp] theorem extRead_lo (s : State) (p : Word) (n : Nat) : (s.extRead p n).2.lo = s.lo := rfl
@[simp] theorem extRead_ld (s : State) (p : Word) (n : Nat) : (s.extRead p n).2.ld = s.ld := rfl
@[simp] theorem extRead_readAbsorb (s : State) (p : Word) (n : Nat) : (s.extRead p n).2.readAbsorb = s.readAbsorb := rfl
@[simp] theorem extRead_sr (s : State) (p : Word) (n : Nat) : (s.extRead p n).2.sr = s.sr := rfl
@[simp] theorem extRead_cause (s : State) (p : Word) (n : Nat) : (s.extRead p n).2.cause = s.cause := rfl
@[simp] theorem extRead_epc (s : State) (p : Word) (n : Nat) : (s.extRead p n).2.epc = s.epc := rfl
@[simp] theorem extRead_badVaddr (s : State) (p : Word) (n : Nat) : (s.extRead p n).2.badVaddr = s.badVaddr := rfl
@[simp] theorem extRead_tar (s : State) (p : Word) (n : Nat) : (s.extRead p n).2.tar = s.tar := rfl
@[simp] theorem extRead_prid (s : State) (p : Word) (n : Nat) : (s.extRead p n).2.prid = s.prid := rfl
@[simp] theorem extRead_bpc (s : State) (p : Word) (n : Nat) : (s.extRead p n).2.bpc = s.bpc := rfl
@[simp] theorem extRead_bda (s : State) (p : Word) (n : Nat) : (s.extRead p n).2.bda = s.bda := rfl
@[simp] theorem extRead_bdam (s : State) (p : Word) (n : Nat) : (s.extRead p n).2.bdam = s.bdam := rfl
@[simp] theorem extRead_bpcm (s : State) (p : Word) (n : Nat) : (s.extRead p n).2.bpcm = s.bpcm := rfl
@[simp] theorem extRead_dcic (s : State) (p : Word) (n : Nat) : (s.extRead p n).2.dcic = s.dcic := rfl
@[simp] theorem extRead_biu (s : State) (p : Word) (n : Nat) : (s.extRead p n).2.biu = s.biu := rfl
@[simp] theorem extRead_ic (s : State) (p : Word) (n : Nat) : (s.extRead p n).2.ic = s.ic := rfl
@[simp] theorem extRead_scratch (s : State) (p : Word) (n : Nat) : (s.extRead p n).2.scratch = s.scratch := rfl
@[simp] theorem extRead_mem (s : State) (p : Word) (n : Nat) : (s.extRead p n).2.mem = s.mem := rfl
@[simp] theorem extRead_events (s : State) (p : Word) (n : Nat) : (s.extRead p n).2.events = .extRead p n :: s.events := rfl
@[simp] theorem extRead_timestamp (s : State) (p : Word) (n : Nat) : (s.extRead p n).2.timestamp = s.timestamp := rfl
@[simp] theorem extRead_draws (s : State) (p : Word) (n : Nat) : (s.extRead p n).2.draws = s.draws := rfl
@[simp] theorem extRead_params (s : State) (p : Word) (n : Nat) : (s.extRead p n).2.params = s.params := rfl
@[simp] theorem extRead_ppu (s : State) (p : Word) (n : Nat) : (s.extRead p n).2.ppu = s.ppu := rfl

/-! ## An external write (R68) -/

@[simp] theorem extWrite_regs (s : State) (p : Word) (n : Nat) (v : Word) : (s.extWrite p n v).regs = s.regs := rfl
@[simp] theorem extWrite_pc (s : State) (p : Word) (n : Nat) (v : Word) : (s.extWrite p n v).pc = s.pc := rfl
@[simp] theorem extWrite_npc (s : State) (p : Word) (n : Nat) (v : Word) : (s.extWrite p n v).npc = s.npc := rfl
@[simp] theorem extWrite_bd (s : State) (p : Word) (n : Nat) (v : Word) : (s.extWrite p n v).bd = s.bd := rfl
@[simp] theorem extWrite_bt (s : State) (p : Word) (n : Nat) (v : Word) : (s.extWrite p n v).bt = s.bt := rfl
@[simp] theorem extWrite_hi (s : State) (p : Word) (n : Nat) (v : Word) : (s.extWrite p n v).hi = s.hi := rfl
@[simp] theorem extWrite_lo (s : State) (p : Word) (n : Nat) (v : Word) : (s.extWrite p n v).lo = s.lo := rfl
@[simp] theorem extWrite_ld (s : State) (p : Word) (n : Nat) (v : Word) : (s.extWrite p n v).ld = s.ld := rfl
@[simp] theorem extWrite_readAbsorb (s : State) (p : Word) (n : Nat) (v : Word) : (s.extWrite p n v).readAbsorb = s.readAbsorb := rfl
@[simp] theorem extWrite_sr (s : State) (p : Word) (n : Nat) (v : Word) : (s.extWrite p n v).sr = s.sr := rfl
@[simp] theorem extWrite_cause (s : State) (p : Word) (n : Nat) (v : Word) : (s.extWrite p n v).cause = s.cause := rfl
@[simp] theorem extWrite_epc (s : State) (p : Word) (n : Nat) (v : Word) : (s.extWrite p n v).epc = s.epc := rfl
@[simp] theorem extWrite_badVaddr (s : State) (p : Word) (n : Nat) (v : Word) : (s.extWrite p n v).badVaddr = s.badVaddr := rfl
@[simp] theorem extWrite_tar (s : State) (p : Word) (n : Nat) (v : Word) : (s.extWrite p n v).tar = s.tar := rfl
@[simp] theorem extWrite_prid (s : State) (p : Word) (n : Nat) (v : Word) : (s.extWrite p n v).prid = s.prid := rfl
@[simp] theorem extWrite_bpc (s : State) (p : Word) (n : Nat) (v : Word) : (s.extWrite p n v).bpc = s.bpc := rfl
@[simp] theorem extWrite_bda (s : State) (p : Word) (n : Nat) (v : Word) : (s.extWrite p n v).bda = s.bda := rfl
@[simp] theorem extWrite_bdam (s : State) (p : Word) (n : Nat) (v : Word) : (s.extWrite p n v).bdam = s.bdam := rfl
@[simp] theorem extWrite_bpcm (s : State) (p : Word) (n : Nat) (v : Word) : (s.extWrite p n v).bpcm = s.bpcm := rfl
@[simp] theorem extWrite_dcic (s : State) (p : Word) (n : Nat) (v : Word) : (s.extWrite p n v).dcic = s.dcic := rfl
@[simp] theorem extWrite_biu (s : State) (p : Word) (n : Nat) (v : Word) : (s.extWrite p n v).biu = s.biu := rfl
@[simp] theorem extWrite_ic (s : State) (p : Word) (n : Nat) (v : Word) : (s.extWrite p n v).ic = s.ic := rfl
@[simp] theorem extWrite_scratch (s : State) (p : Word) (n : Nat) (v : Word) : (s.extWrite p n v).scratch = s.scratch := rfl
@[simp] theorem extWrite_events (s : State) (p : Word) (n : Nat) (v : Word) : (s.extWrite p n v).events = .extWrite p n (lowBytes n v) :: s.events := rfl
@[simp] theorem extWrite_timestamp (s : State) (p : Word) (n : Nat) (v : Word) : (s.extWrite p n v).timestamp = s.timestamp := rfl
@[simp] theorem extWrite_draws (s : State) (p : Word) (n : Nat) (v : Word) : (s.extWrite p n v).draws = s.draws := rfl
@[simp] theorem extWrite_params (s : State) (p : Word) (n : Nat) (v : Word) : (s.extWrite p n v).params = s.params := rfl
@[simp] theorem extWrite_ppu (s : State) (p : Word) (n : Nat) (v : Word) : (s.extWrite p n v).ppu = s.ppu := rfl

/-! ## A write of BIU (R41) -/

@[simp] theorem biuWrite_regs (s : State) (v : Word) : (s.biuWrite v).regs = s.regs := rfl
@[simp] theorem biuWrite_pc (s : State) (v : Word) : (s.biuWrite v).pc = s.pc := rfl
@[simp] theorem biuWrite_npc (s : State) (v : Word) : (s.biuWrite v).npc = s.npc := rfl
@[simp] theorem biuWrite_bd (s : State) (v : Word) : (s.biuWrite v).bd = s.bd := rfl
@[simp] theorem biuWrite_bt (s : State) (v : Word) : (s.biuWrite v).bt = s.bt := rfl
@[simp] theorem biuWrite_hi (s : State) (v : Word) : (s.biuWrite v).hi = s.hi := rfl
@[simp] theorem biuWrite_lo (s : State) (v : Word) : (s.biuWrite v).lo = s.lo := rfl
@[simp] theorem biuWrite_ld (s : State) (v : Word) : (s.biuWrite v).ld = s.ld := rfl
@[simp] theorem biuWrite_readAbsorb (s : State) (v : Word) : (s.biuWrite v).readAbsorb = s.readAbsorb := rfl
@[simp] theorem biuWrite_sr (s : State) (v : Word) : (s.biuWrite v).sr = s.sr := rfl
@[simp] theorem biuWrite_cause (s : State) (v : Word) : (s.biuWrite v).cause = s.cause := rfl
@[simp] theorem biuWrite_epc (s : State) (v : Word) : (s.biuWrite v).epc = s.epc := rfl
@[simp] theorem biuWrite_badVaddr (s : State) (v : Word) : (s.biuWrite v).badVaddr = s.badVaddr := rfl
@[simp] theorem biuWrite_tar (s : State) (v : Word) : (s.biuWrite v).tar = s.tar := rfl
@[simp] theorem biuWrite_prid (s : State) (v : Word) : (s.biuWrite v).prid = s.prid := rfl
@[simp] theorem biuWrite_bpc (s : State) (v : Word) : (s.biuWrite v).bpc = s.bpc := rfl
@[simp] theorem biuWrite_bda (s : State) (v : Word) : (s.biuWrite v).bda = s.bda := rfl
@[simp] theorem biuWrite_bdam (s : State) (v : Word) : (s.biuWrite v).bdam = s.bdam := rfl
@[simp] theorem biuWrite_bpcm (s : State) (v : Word) : (s.biuWrite v).bpcm = s.bpcm := rfl
@[simp] theorem biuWrite_dcic (s : State) (v : Word) : (s.biuWrite v).dcic = s.dcic := rfl
@[simp] theorem biuWrite_biu (s : State) (v : Word) : (s.biuWrite v).biu = v &&& ~~~0x00000440#32 := rfl
@[simp] theorem biuWrite_scratch (s : State) (v : Word) : (s.biuWrite v).scratch = s.scratch := rfl
@[simp] theorem biuWrite_mem (s : State) (v : Word) : (s.biuWrite v).mem = s.mem := rfl
@[simp] theorem biuWrite_events (s : State) (v : Word) : (s.biuWrite v).events = s.events := rfl
@[simp] theorem biuWrite_timestamp (s : State) (v : Word) : (s.biuWrite v).timestamp = s.timestamp := rfl
@[simp] theorem biuWrite_draws (s : State) (v : Word) : (s.biuWrite v).draws = s.draws := rfl
@[simp] theorem biuWrite_params (s : State) (v : Word) : (s.biuWrite v).params = s.params := rfl
@[simp] theorem biuWrite_ppu (s : State) (v : Word) : (s.biuWrite v).ppu = s.ppu := rfl

/-! ## An isolated store (R72) -/

@[simp] theorem isolatedStore_regs (s : State) (a : Word) (n : Nat) (v : Word) : (s.isolatedStore a n v).regs = s.regs := rfl
@[simp] theorem isolatedStore_pc (s : State) (a : Word) (n : Nat) (v : Word) : (s.isolatedStore a n v).pc = s.pc := rfl
@[simp] theorem isolatedStore_npc (s : State) (a : Word) (n : Nat) (v : Word) : (s.isolatedStore a n v).npc = s.npc := rfl
@[simp] theorem isolatedStore_bd (s : State) (a : Word) (n : Nat) (v : Word) : (s.isolatedStore a n v).bd = s.bd := rfl
@[simp] theorem isolatedStore_bt (s : State) (a : Word) (n : Nat) (v : Word) : (s.isolatedStore a n v).bt = s.bt := rfl
@[simp] theorem isolatedStore_hi (s : State) (a : Word) (n : Nat) (v : Word) : (s.isolatedStore a n v).hi = s.hi := rfl
@[simp] theorem isolatedStore_lo (s : State) (a : Word) (n : Nat) (v : Word) : (s.isolatedStore a n v).lo = s.lo := rfl
@[simp] theorem isolatedStore_ld (s : State) (a : Word) (n : Nat) (v : Word) : (s.isolatedStore a n v).ld = s.ld := rfl
@[simp] theorem isolatedStore_readAbsorb (s : State) (a : Word) (n : Nat) (v : Word) : (s.isolatedStore a n v).readAbsorb = s.readAbsorb := rfl
@[simp] theorem isolatedStore_sr (s : State) (a : Word) (n : Nat) (v : Word) : (s.isolatedStore a n v).sr = s.sr := rfl
@[simp] theorem isolatedStore_cause (s : State) (a : Word) (n : Nat) (v : Word) : (s.isolatedStore a n v).cause = s.cause := rfl
@[simp] theorem isolatedStore_epc (s : State) (a : Word) (n : Nat) (v : Word) : (s.isolatedStore a n v).epc = s.epc := rfl
@[simp] theorem isolatedStore_badVaddr (s : State) (a : Word) (n : Nat) (v : Word) : (s.isolatedStore a n v).badVaddr = s.badVaddr := rfl
@[simp] theorem isolatedStore_tar (s : State) (a : Word) (n : Nat) (v : Word) : (s.isolatedStore a n v).tar = s.tar := rfl
@[simp] theorem isolatedStore_prid (s : State) (a : Word) (n : Nat) (v : Word) : (s.isolatedStore a n v).prid = s.prid := rfl
@[simp] theorem isolatedStore_bpc (s : State) (a : Word) (n : Nat) (v : Word) : (s.isolatedStore a n v).bpc = s.bpc := rfl
@[simp] theorem isolatedStore_bda (s : State) (a : Word) (n : Nat) (v : Word) : (s.isolatedStore a n v).bda = s.bda := rfl
@[simp] theorem isolatedStore_bdam (s : State) (a : Word) (n : Nat) (v : Word) : (s.isolatedStore a n v).bdam = s.bdam := rfl
@[simp] theorem isolatedStore_bpcm (s : State) (a : Word) (n : Nat) (v : Word) : (s.isolatedStore a n v).bpcm = s.bpcm := rfl
@[simp] theorem isolatedStore_dcic (s : State) (a : Word) (n : Nat) (v : Word) : (s.isolatedStore a n v).dcic = s.dcic := rfl
@[simp] theorem isolatedStore_biu (s : State) (a : Word) (n : Nat) (v : Word) : (s.isolatedStore a n v).biu = s.biu := rfl
@[simp] theorem isolatedStore_ic (s : State) (a : Word) (n : Nat) (v : Word) : (s.isolatedStore a n v).ic = isolatedCache a (lowBytes n v) s := rfl
@[simp] theorem isolatedStore_scratch (s : State) (a : Word) (n : Nat) (v : Word) : (s.isolatedStore a n v).scratch = isolatedScratch a n v s := rfl
@[simp] theorem isolatedStore_mem (s : State) (a : Word) (n : Nat) (v : Word) : (s.isolatedStore a n v).mem = s.mem := rfl
@[simp] theorem isolatedStore_events (s : State) (a : Word) (n : Nat) (v : Word) : (s.isolatedStore a n v).events = s.events := rfl
@[simp] theorem isolatedStore_timestamp (s : State) (a : Word) (n : Nat) (v : Word) : (s.isolatedStore a n v).timestamp = s.timestamp := rfl
@[simp] theorem isolatedStore_draws (s : State) (a : Word) (n : Nat) (v : Word) : (s.isolatedStore a n v).draws = s.draws := rfl
@[simp] theorem isolatedStore_params (s : State) (a : Word) (n : Nat) (v : Word) : (s.isolatedStore a n v).params = s.params := rfl
@[simp] theorem isolatedStore_ppu (s : State) (a : Word) (n : Nat) (v : Word) : (s.isolatedStore a n v).ppu = s.ppu := rfl

/-! ## A GTE data read (R310) -/

@[simp] theorem gteReadData_regs (s : State) (r : RegNum) : (s.gteReadData r).2.regs = s.regs := rfl
@[simp] theorem gteReadData_pc (s : State) (r : RegNum) : (s.gteReadData r).2.pc = s.pc := rfl
@[simp] theorem gteReadData_npc (s : State) (r : RegNum) : (s.gteReadData r).2.npc = s.npc := rfl
@[simp] theorem gteReadData_bd (s : State) (r : RegNum) : (s.gteReadData r).2.bd = s.bd := rfl
@[simp] theorem gteReadData_bt (s : State) (r : RegNum) : (s.gteReadData r).2.bt = s.bt := rfl
@[simp] theorem gteReadData_hi (s : State) (r : RegNum) : (s.gteReadData r).2.hi = s.hi := rfl
@[simp] theorem gteReadData_lo (s : State) (r : RegNum) : (s.gteReadData r).2.lo = s.lo := rfl
@[simp] theorem gteReadData_ld (s : State) (r : RegNum) : (s.gteReadData r).2.ld = s.ld := rfl
@[simp] theorem gteReadData_readAbsorb (s : State) (r : RegNum) : (s.gteReadData r).2.readAbsorb = s.readAbsorb := rfl
@[simp] theorem gteReadData_sr (s : State) (r : RegNum) : (s.gteReadData r).2.sr = s.sr := rfl
@[simp] theorem gteReadData_cause (s : State) (r : RegNum) : (s.gteReadData r).2.cause = s.cause := rfl
@[simp] theorem gteReadData_epc (s : State) (r : RegNum) : (s.gteReadData r).2.epc = s.epc := rfl
@[simp] theorem gteReadData_badVaddr (s : State) (r : RegNum) : (s.gteReadData r).2.badVaddr = s.badVaddr := rfl
@[simp] theorem gteReadData_tar (s : State) (r : RegNum) : (s.gteReadData r).2.tar = s.tar := rfl
@[simp] theorem gteReadData_prid (s : State) (r : RegNum) : (s.gteReadData r).2.prid = s.prid := rfl
@[simp] theorem gteReadData_bpc (s : State) (r : RegNum) : (s.gteReadData r).2.bpc = s.bpc := rfl
@[simp] theorem gteReadData_bda (s : State) (r : RegNum) : (s.gteReadData r).2.bda = s.bda := rfl
@[simp] theorem gteReadData_bdam (s : State) (r : RegNum) : (s.gteReadData r).2.bdam = s.bdam := rfl
@[simp] theorem gteReadData_bpcm (s : State) (r : RegNum) : (s.gteReadData r).2.bpcm = s.bpcm := rfl
@[simp] theorem gteReadData_dcic (s : State) (r : RegNum) : (s.gteReadData r).2.dcic = s.dcic := rfl
@[simp] theorem gteReadData_biu (s : State) (r : RegNum) : (s.gteReadData r).2.biu = s.biu := rfl
@[simp] theorem gteReadData_ic (s : State) (r : RegNum) : (s.gteReadData r).2.ic = s.ic := rfl
@[simp] theorem gteReadData_scratch (s : State) (r : RegNum) : (s.gteReadData r).2.scratch = s.scratch := rfl
@[simp] theorem gteReadData_mem (s : State) (r : RegNum) : (s.gteReadData r).2.mem = s.mem := rfl
@[simp] theorem gteReadData_events (s : State) (r : RegNum) : (s.gteReadData r).2.events = .gteReadData r :: s.events := rfl
@[simp] theorem gteReadData_timestamp (s : State) (r : RegNum) : (s.gteReadData r).2.timestamp = s.timestamp := rfl
@[simp] theorem gteReadData_draws (s : State) (r : RegNum) : (s.gteReadData r).2.draws = s.draws := rfl
@[simp] theorem gteReadData_params (s : State) (r : RegNum) : (s.gteReadData r).2.params = s.params := rfl
@[simp] theorem gteReadData_ppu (s : State) (r : RegNum) : (s.gteReadData r).2.ppu = s.ppu := rfl

/-! ## A GTE control read (R310) -/

@[simp] theorem gteReadCtrl_regs (s : State) (r : RegNum) : (s.gteReadCtrl r).2.regs = s.regs := rfl
@[simp] theorem gteReadCtrl_pc (s : State) (r : RegNum) : (s.gteReadCtrl r).2.pc = s.pc := rfl
@[simp] theorem gteReadCtrl_npc (s : State) (r : RegNum) : (s.gteReadCtrl r).2.npc = s.npc := rfl
@[simp] theorem gteReadCtrl_bd (s : State) (r : RegNum) : (s.gteReadCtrl r).2.bd = s.bd := rfl
@[simp] theorem gteReadCtrl_bt (s : State) (r : RegNum) : (s.gteReadCtrl r).2.bt = s.bt := rfl
@[simp] theorem gteReadCtrl_hi (s : State) (r : RegNum) : (s.gteReadCtrl r).2.hi = s.hi := rfl
@[simp] theorem gteReadCtrl_lo (s : State) (r : RegNum) : (s.gteReadCtrl r).2.lo = s.lo := rfl
@[simp] theorem gteReadCtrl_ld (s : State) (r : RegNum) : (s.gteReadCtrl r).2.ld = s.ld := rfl
@[simp] theorem gteReadCtrl_readAbsorb (s : State) (r : RegNum) : (s.gteReadCtrl r).2.readAbsorb = s.readAbsorb := rfl
@[simp] theorem gteReadCtrl_sr (s : State) (r : RegNum) : (s.gteReadCtrl r).2.sr = s.sr := rfl
@[simp] theorem gteReadCtrl_cause (s : State) (r : RegNum) : (s.gteReadCtrl r).2.cause = s.cause := rfl
@[simp] theorem gteReadCtrl_epc (s : State) (r : RegNum) : (s.gteReadCtrl r).2.epc = s.epc := rfl
@[simp] theorem gteReadCtrl_badVaddr (s : State) (r : RegNum) : (s.gteReadCtrl r).2.badVaddr = s.badVaddr := rfl
@[simp] theorem gteReadCtrl_tar (s : State) (r : RegNum) : (s.gteReadCtrl r).2.tar = s.tar := rfl
@[simp] theorem gteReadCtrl_prid (s : State) (r : RegNum) : (s.gteReadCtrl r).2.prid = s.prid := rfl
@[simp] theorem gteReadCtrl_bpc (s : State) (r : RegNum) : (s.gteReadCtrl r).2.bpc = s.bpc := rfl
@[simp] theorem gteReadCtrl_bda (s : State) (r : RegNum) : (s.gteReadCtrl r).2.bda = s.bda := rfl
@[simp] theorem gteReadCtrl_bdam (s : State) (r : RegNum) : (s.gteReadCtrl r).2.bdam = s.bdam := rfl
@[simp] theorem gteReadCtrl_bpcm (s : State) (r : RegNum) : (s.gteReadCtrl r).2.bpcm = s.bpcm := rfl
@[simp] theorem gteReadCtrl_dcic (s : State) (r : RegNum) : (s.gteReadCtrl r).2.dcic = s.dcic := rfl
@[simp] theorem gteReadCtrl_biu (s : State) (r : RegNum) : (s.gteReadCtrl r).2.biu = s.biu := rfl
@[simp] theorem gteReadCtrl_ic (s : State) (r : RegNum) : (s.gteReadCtrl r).2.ic = s.ic := rfl
@[simp] theorem gteReadCtrl_scratch (s : State) (r : RegNum) : (s.gteReadCtrl r).2.scratch = s.scratch := rfl
@[simp] theorem gteReadCtrl_mem (s : State) (r : RegNum) : (s.gteReadCtrl r).2.mem = s.mem := rfl
@[simp] theorem gteReadCtrl_events (s : State) (r : RegNum) : (s.gteReadCtrl r).2.events = .gteReadCtrl r :: s.events := rfl
@[simp] theorem gteReadCtrl_timestamp (s : State) (r : RegNum) : (s.gteReadCtrl r).2.timestamp = s.timestamp := rfl
@[simp] theorem gteReadCtrl_draws (s : State) (r : RegNum) : (s.gteReadCtrl r).2.draws = s.draws := rfl
@[simp] theorem gteReadCtrl_params (s : State) (r : RegNum) : (s.gteReadCtrl r).2.params = s.params := rfl
@[simp] theorem gteReadCtrl_ppu (s : State) (r : RegNum) : (s.gteReadCtrl r).2.ppu = s.ppu := rfl

/-! ## A GTE data write (R310) -/

@[simp] theorem gteWriteData_regs (s : State) (r : RegNum) (v : Word) : (s.gteWriteData r v).regs = s.regs := rfl
@[simp] theorem gteWriteData_pc (s : State) (r : RegNum) (v : Word) : (s.gteWriteData r v).pc = s.pc := rfl
@[simp] theorem gteWriteData_npc (s : State) (r : RegNum) (v : Word) : (s.gteWriteData r v).npc = s.npc := rfl
@[simp] theorem gteWriteData_bd (s : State) (r : RegNum) (v : Word) : (s.gteWriteData r v).bd = s.bd := rfl
@[simp] theorem gteWriteData_bt (s : State) (r : RegNum) (v : Word) : (s.gteWriteData r v).bt = s.bt := rfl
@[simp] theorem gteWriteData_hi (s : State) (r : RegNum) (v : Word) : (s.gteWriteData r v).hi = s.hi := rfl
@[simp] theorem gteWriteData_lo (s : State) (r : RegNum) (v : Word) : (s.gteWriteData r v).lo = s.lo := rfl
@[simp] theorem gteWriteData_ld (s : State) (r : RegNum) (v : Word) : (s.gteWriteData r v).ld = s.ld := rfl
@[simp] theorem gteWriteData_readAbsorb (s : State) (r : RegNum) (v : Word) : (s.gteWriteData r v).readAbsorb = s.readAbsorb := rfl
@[simp] theorem gteWriteData_sr (s : State) (r : RegNum) (v : Word) : (s.gteWriteData r v).sr = s.sr := rfl
@[simp] theorem gteWriteData_cause (s : State) (r : RegNum) (v : Word) : (s.gteWriteData r v).cause = s.cause := rfl
@[simp] theorem gteWriteData_epc (s : State) (r : RegNum) (v : Word) : (s.gteWriteData r v).epc = s.epc := rfl
@[simp] theorem gteWriteData_badVaddr (s : State) (r : RegNum) (v : Word) : (s.gteWriteData r v).badVaddr = s.badVaddr := rfl
@[simp] theorem gteWriteData_tar (s : State) (r : RegNum) (v : Word) : (s.gteWriteData r v).tar = s.tar := rfl
@[simp] theorem gteWriteData_prid (s : State) (r : RegNum) (v : Word) : (s.gteWriteData r v).prid = s.prid := rfl
@[simp] theorem gteWriteData_bpc (s : State) (r : RegNum) (v : Word) : (s.gteWriteData r v).bpc = s.bpc := rfl
@[simp] theorem gteWriteData_bda (s : State) (r : RegNum) (v : Word) : (s.gteWriteData r v).bda = s.bda := rfl
@[simp] theorem gteWriteData_bdam (s : State) (r : RegNum) (v : Word) : (s.gteWriteData r v).bdam = s.bdam := rfl
@[simp] theorem gteWriteData_bpcm (s : State) (r : RegNum) (v : Word) : (s.gteWriteData r v).bpcm = s.bpcm := rfl
@[simp] theorem gteWriteData_dcic (s : State) (r : RegNum) (v : Word) : (s.gteWriteData r v).dcic = s.dcic := rfl
@[simp] theorem gteWriteData_biu (s : State) (r : RegNum) (v : Word) : (s.gteWriteData r v).biu = s.biu := rfl
@[simp] theorem gteWriteData_ic (s : State) (r : RegNum) (v : Word) : (s.gteWriteData r v).ic = s.ic := rfl
@[simp] theorem gteWriteData_scratch (s : State) (r : RegNum) (v : Word) : (s.gteWriteData r v).scratch = s.scratch := rfl
@[simp] theorem gteWriteData_mem (s : State) (r : RegNum) (v : Word) : (s.gteWriteData r v).mem = s.mem := rfl
@[simp] theorem gteWriteData_events (s : State) (r : RegNum) (v : Word) : (s.gteWriteData r v).events = .gteWriteData r v :: s.events := rfl
@[simp] theorem gteWriteData_timestamp (s : State) (r : RegNum) (v : Word) : (s.gteWriteData r v).timestamp = s.timestamp := rfl
@[simp] theorem gteWriteData_draws (s : State) (r : RegNum) (v : Word) : (s.gteWriteData r v).draws = s.draws := rfl
@[simp] theorem gteWriteData_params (s : State) (r : RegNum) (v : Word) : (s.gteWriteData r v).params = s.params := rfl
@[simp] theorem gteWriteData_ppu (s : State) (r : RegNum) (v : Word) : (s.gteWriteData r v).ppu = s.ppu := rfl

/-! ## A GTE control write (R310) -/

@[simp] theorem gteWriteCtrl_regs (s : State) (r : RegNum) (v : Word) : (s.gteWriteCtrl r v).regs = s.regs := rfl
@[simp] theorem gteWriteCtrl_pc (s : State) (r : RegNum) (v : Word) : (s.gteWriteCtrl r v).pc = s.pc := rfl
@[simp] theorem gteWriteCtrl_npc (s : State) (r : RegNum) (v : Word) : (s.gteWriteCtrl r v).npc = s.npc := rfl
@[simp] theorem gteWriteCtrl_bd (s : State) (r : RegNum) (v : Word) : (s.gteWriteCtrl r v).bd = s.bd := rfl
@[simp] theorem gteWriteCtrl_bt (s : State) (r : RegNum) (v : Word) : (s.gteWriteCtrl r v).bt = s.bt := rfl
@[simp] theorem gteWriteCtrl_hi (s : State) (r : RegNum) (v : Word) : (s.gteWriteCtrl r v).hi = s.hi := rfl
@[simp] theorem gteWriteCtrl_lo (s : State) (r : RegNum) (v : Word) : (s.gteWriteCtrl r v).lo = s.lo := rfl
@[simp] theorem gteWriteCtrl_ld (s : State) (r : RegNum) (v : Word) : (s.gteWriteCtrl r v).ld = s.ld := rfl
@[simp] theorem gteWriteCtrl_readAbsorb (s : State) (r : RegNum) (v : Word) : (s.gteWriteCtrl r v).readAbsorb = s.readAbsorb := rfl
@[simp] theorem gteWriteCtrl_sr (s : State) (r : RegNum) (v : Word) : (s.gteWriteCtrl r v).sr = s.sr := rfl
@[simp] theorem gteWriteCtrl_cause (s : State) (r : RegNum) (v : Word) : (s.gteWriteCtrl r v).cause = s.cause := rfl
@[simp] theorem gteWriteCtrl_epc (s : State) (r : RegNum) (v : Word) : (s.gteWriteCtrl r v).epc = s.epc := rfl
@[simp] theorem gteWriteCtrl_badVaddr (s : State) (r : RegNum) (v : Word) : (s.gteWriteCtrl r v).badVaddr = s.badVaddr := rfl
@[simp] theorem gteWriteCtrl_tar (s : State) (r : RegNum) (v : Word) : (s.gteWriteCtrl r v).tar = s.tar := rfl
@[simp] theorem gteWriteCtrl_prid (s : State) (r : RegNum) (v : Word) : (s.gteWriteCtrl r v).prid = s.prid := rfl
@[simp] theorem gteWriteCtrl_bpc (s : State) (r : RegNum) (v : Word) : (s.gteWriteCtrl r v).bpc = s.bpc := rfl
@[simp] theorem gteWriteCtrl_bda (s : State) (r : RegNum) (v : Word) : (s.gteWriteCtrl r v).bda = s.bda := rfl
@[simp] theorem gteWriteCtrl_bdam (s : State) (r : RegNum) (v : Word) : (s.gteWriteCtrl r v).bdam = s.bdam := rfl
@[simp] theorem gteWriteCtrl_bpcm (s : State) (r : RegNum) (v : Word) : (s.gteWriteCtrl r v).bpcm = s.bpcm := rfl
@[simp] theorem gteWriteCtrl_dcic (s : State) (r : RegNum) (v : Word) : (s.gteWriteCtrl r v).dcic = s.dcic := rfl
@[simp] theorem gteWriteCtrl_biu (s : State) (r : RegNum) (v : Word) : (s.gteWriteCtrl r v).biu = s.biu := rfl
@[simp] theorem gteWriteCtrl_ic (s : State) (r : RegNum) (v : Word) : (s.gteWriteCtrl r v).ic = s.ic := rfl
@[simp] theorem gteWriteCtrl_scratch (s : State) (r : RegNum) (v : Word) : (s.gteWriteCtrl r v).scratch = s.scratch := rfl
@[simp] theorem gteWriteCtrl_mem (s : State) (r : RegNum) (v : Word) : (s.gteWriteCtrl r v).mem = s.mem := rfl
@[simp] theorem gteWriteCtrl_events (s : State) (r : RegNum) (v : Word) : (s.gteWriteCtrl r v).events = .gteWriteCtrl r v :: s.events := rfl
@[simp] theorem gteWriteCtrl_timestamp (s : State) (r : RegNum) (v : Word) : (s.gteWriteCtrl r v).timestamp = s.timestamp := rfl
@[simp] theorem gteWriteCtrl_draws (s : State) (r : RegNum) (v : Word) : (s.gteWriteCtrl r v).draws = s.draws := rfl
@[simp] theorem gteWriteCtrl_params (s : State) (r : RegNum) (v : Word) : (s.gteWriteCtrl r v).params = s.params := rfl
@[simp] theorem gteWriteCtrl_ppu (s : State) (r : RegNum) (v : Word) : (s.gteWriteCtrl r v).ppu = s.ppu := rfl

/-! ## A GTE command (R310) -/

@[simp] theorem gteCommand_regs (s : State) (c : BitVec 25) : (s.gteCommand c).regs = s.regs := rfl
@[simp] theorem gteCommand_pc (s : State) (c : BitVec 25) : (s.gteCommand c).pc = s.pc := rfl
@[simp] theorem gteCommand_npc (s : State) (c : BitVec 25) : (s.gteCommand c).npc = s.npc := rfl
@[simp] theorem gteCommand_bd (s : State) (c : BitVec 25) : (s.gteCommand c).bd = s.bd := rfl
@[simp] theorem gteCommand_bt (s : State) (c : BitVec 25) : (s.gteCommand c).bt = s.bt := rfl
@[simp] theorem gteCommand_hi (s : State) (c : BitVec 25) : (s.gteCommand c).hi = s.hi := rfl
@[simp] theorem gteCommand_lo (s : State) (c : BitVec 25) : (s.gteCommand c).lo = s.lo := rfl
@[simp] theorem gteCommand_ld (s : State) (c : BitVec 25) : (s.gteCommand c).ld = s.ld := rfl
@[simp] theorem gteCommand_readAbsorb (s : State) (c : BitVec 25) : (s.gteCommand c).readAbsorb = s.readAbsorb := rfl
@[simp] theorem gteCommand_sr (s : State) (c : BitVec 25) : (s.gteCommand c).sr = s.sr := rfl
@[simp] theorem gteCommand_cause (s : State) (c : BitVec 25) : (s.gteCommand c).cause = s.cause := rfl
@[simp] theorem gteCommand_epc (s : State) (c : BitVec 25) : (s.gteCommand c).epc = s.epc := rfl
@[simp] theorem gteCommand_badVaddr (s : State) (c : BitVec 25) : (s.gteCommand c).badVaddr = s.badVaddr := rfl
@[simp] theorem gteCommand_tar (s : State) (c : BitVec 25) : (s.gteCommand c).tar = s.tar := rfl
@[simp] theorem gteCommand_prid (s : State) (c : BitVec 25) : (s.gteCommand c).prid = s.prid := rfl
@[simp] theorem gteCommand_bpc (s : State) (c : BitVec 25) : (s.gteCommand c).bpc = s.bpc := rfl
@[simp] theorem gteCommand_bda (s : State) (c : BitVec 25) : (s.gteCommand c).bda = s.bda := rfl
@[simp] theorem gteCommand_bdam (s : State) (c : BitVec 25) : (s.gteCommand c).bdam = s.bdam := rfl
@[simp] theorem gteCommand_bpcm (s : State) (c : BitVec 25) : (s.gteCommand c).bpcm = s.bpcm := rfl
@[simp] theorem gteCommand_dcic (s : State) (c : BitVec 25) : (s.gteCommand c).dcic = s.dcic := rfl
@[simp] theorem gteCommand_biu (s : State) (c : BitVec 25) : (s.gteCommand c).biu = s.biu := rfl
@[simp] theorem gteCommand_ic (s : State) (c : BitVec 25) : (s.gteCommand c).ic = s.ic := rfl
@[simp] theorem gteCommand_scratch (s : State) (c : BitVec 25) : (s.gteCommand c).scratch = s.scratch := rfl
@[simp] theorem gteCommand_mem (s : State) (c : BitVec 25) : (s.gteCommand c).mem = s.mem := rfl
@[simp] theorem gteCommand_events (s : State) (c : BitVec 25) : (s.gteCommand c).events = .gteCommand c :: s.events := rfl
@[simp] theorem gteCommand_timestamp (s : State) (c : BitVec 25) : (s.gteCommand c).timestamp = s.timestamp := rfl
@[simp] theorem gteCommand_draws (s : State) (c : BitVec 25) : (s.gteCommand c).draws = s.draws := rfl
@[simp] theorem gteCommand_params (s : State) (c : BitVec 25) : (s.gteCommand c).params = s.params := rfl
@[simp] theorem gteCommand_ppu (s : State) (c : BitVec 25) : (s.gteCommand c).ppu = s.ppu := rfl

/-! ## An MTC0 write (R291) -/

@[simp] theorem cop0Write_regs (s : State) (n : RegNum) (v : Word) : (s.cop0Write n v).regs = s.regs := rfl
@[simp] theorem cop0Write_pc (s : State) (n : RegNum) (v : Word) : (s.cop0Write n v).pc = s.pc := rfl
@[simp] theorem cop0Write_npc (s : State) (n : RegNum) (v : Word) : (s.cop0Write n v).npc = s.npc := rfl
@[simp] theorem cop0Write_bd (s : State) (n : RegNum) (v : Word) : (s.cop0Write n v).bd = s.bd := rfl
@[simp] theorem cop0Write_bt (s : State) (n : RegNum) (v : Word) : (s.cop0Write n v).bt = s.bt := rfl
@[simp] theorem cop0Write_hi (s : State) (n : RegNum) (v : Word) : (s.cop0Write n v).hi = s.hi := rfl
@[simp] theorem cop0Write_lo (s : State) (n : RegNum) (v : Word) : (s.cop0Write n v).lo = s.lo := rfl
@[simp] theorem cop0Write_ld (s : State) (n : RegNum) (v : Word) : (s.cop0Write n v).ld = s.ld := rfl
@[simp] theorem cop0Write_readAbsorb (s : State) (n : RegNum) (v : Word) : (s.cop0Write n v).readAbsorb = s.readAbsorb := rfl
@[simp] theorem cop0Write_sr (s : State) (n : RegNum) (v : Word) : (s.cop0Write n v).sr = if n = 12 then v &&& srWriteMask else s.sr := rfl
@[simp] theorem cop0Write_cause (s : State) (n : RegNum) (v : Word) : (s.cop0Write n v).cause = if n = 13 then (s.cause &&& ~~~causeWriteMask) ||| (v &&& causeWriteMask) else s.cause := rfl
@[simp] theorem cop0Write_epc (s : State) (n : RegNum) (v : Word) : (s.cop0Write n v).epc = s.epc := rfl
@[simp] theorem cop0Write_badVaddr (s : State) (n : RegNum) (v : Word) : (s.cop0Write n v).badVaddr = s.badVaddr := rfl
@[simp] theorem cop0Write_tar (s : State) (n : RegNum) (v : Word) : (s.cop0Write n v).tar = s.tar := rfl
@[simp] theorem cop0Write_prid (s : State) (n : RegNum) (v : Word) : (s.cop0Write n v).prid = s.prid := rfl
@[simp] theorem cop0Write_bpc (s : State) (n : RegNum) (v : Word) : (s.cop0Write n v).bpc = if n = 3 then v else s.bpc := rfl
@[simp] theorem cop0Write_bda (s : State) (n : RegNum) (v : Word) : (s.cop0Write n v).bda = if n = 5 then v else s.bda := rfl
@[simp] theorem cop0Write_bdam (s : State) (n : RegNum) (v : Word) : (s.cop0Write n v).bdam = if n = 9 then v else s.bdam := rfl
@[simp] theorem cop0Write_bpcm (s : State) (n : RegNum) (v : Word) : (s.cop0Write n v).bpcm = if n = 11 then v else s.bpcm := rfl
@[simp] theorem cop0Write_dcic (s : State) (n : RegNum) (v : Word) : (s.cop0Write n v).dcic = if n = 7 then v &&& dcicWriteMask else s.dcic := rfl
@[simp] theorem cop0Write_biu (s : State) (n : RegNum) (v : Word) : (s.cop0Write n v).biu = s.biu := rfl
@[simp] theorem cop0Write_ic (s : State) (n : RegNum) (v : Word) : (s.cop0Write n v).ic = s.ic := rfl
@[simp] theorem cop0Write_scratch (s : State) (n : RegNum) (v : Word) : (s.cop0Write n v).scratch = s.scratch := rfl
@[simp] theorem cop0Write_mem (s : State) (n : RegNum) (v : Word) : (s.cop0Write n v).mem = s.mem := rfl
@[simp] theorem cop0Write_events (s : State) (n : RegNum) (v : Word) : (s.cop0Write n v).events = s.events := rfl
@[simp] theorem cop0Write_timestamp (s : State) (n : RegNum) (v : Word) : (s.cop0Write n v).timestamp = s.timestamp := rfl
@[simp] theorem cop0Write_draws (s : State) (n : RegNum) (v : Word) : (s.cop0Write n v).draws = s.draws := rfl
@[simp] theorem cop0Write_params (s : State) (n : RegNum) (v : Word) : (s.cop0Write n v).params = s.params := rfl
@[simp] theorem cop0Write_ppu (s : State) (n : RegNum) (v : Word) : (s.cop0Write n v).ppu = s.ppu := rfl

/-! ## A step's time (R46) -/

@[simp] theorem tick_regs (s : State) : s.tick.regs = s.regs := rfl
@[simp] theorem tick_pc (s : State) : s.tick.pc = s.pc := rfl
@[simp] theorem tick_npc (s : State) : s.tick.npc = s.npc := rfl
@[simp] theorem tick_bd (s : State) : s.tick.bd = s.bd := rfl
@[simp] theorem tick_bt (s : State) : s.tick.bt = s.bt := rfl
@[simp] theorem tick_hi (s : State) : s.tick.hi = s.hi := rfl
@[simp] theorem tick_lo (s : State) : s.tick.lo = s.lo := rfl
@[simp] theorem tick_ld (s : State) : s.tick.ld = s.ld := rfl
@[simp] theorem tick_readAbsorb (s : State) : s.tick.readAbsorb = if s.ld.isSome then Config.readAbsorb s.draws else 0 := rfl
@[simp] theorem tick_sr (s : State) : s.tick.sr = s.sr := rfl
@[simp] theorem tick_cause (s : State) : s.tick.cause = s.cause := rfl
@[simp] theorem tick_epc (s : State) : s.tick.epc = s.epc := rfl
@[simp] theorem tick_badVaddr (s : State) : s.tick.badVaddr = s.badVaddr := rfl
@[simp] theorem tick_tar (s : State) : s.tick.tar = s.tar := rfl
@[simp] theorem tick_prid (s : State) : s.tick.prid = s.prid := rfl
@[simp] theorem tick_bpc (s : State) : s.tick.bpc = s.bpc := rfl
@[simp] theorem tick_bda (s : State) : s.tick.bda = s.bda := rfl
@[simp] theorem tick_bdam (s : State) : s.tick.bdam = s.bdam := rfl
@[simp] theorem tick_bpcm (s : State) : s.tick.bpcm = s.bpcm := rfl
@[simp] theorem tick_dcic (s : State) : s.tick.dcic = s.dcic := rfl
@[simp] theorem tick_biu (s : State) : s.tick.biu = s.biu := rfl
@[simp] theorem tick_ic (s : State) : s.tick.ic = s.ic := rfl
@[simp] theorem tick_scratch (s : State) : s.tick.scratch = s.scratch := rfl
@[simp] theorem tick_mem (s : State) : s.tick.mem = s.mem := rfl
@[simp] theorem tick_events (s : State) : s.tick.events = s.events := rfl
@[simp] theorem tick_timestamp (s : State) : s.tick.timestamp = s.timestamp + Config.stepCycles s.draws := rfl
@[simp] theorem tick_draws (s : State) : s.tick.draws = s.draws + 1 := rfl
@[simp] theorem tick_params (s : State) : s.tick.params = s.params := rfl
@[simp] theorem tick_ppu (s : State) : s.tick.ppu = s.ppu := rfl

/-! ## The placing of a word to fetch -/

@[simp] theorem placeFetchWord_regs (s : State) (w : Word) : (s.placeFetchWord w).regs = s.regs := rfl
@[simp] theorem placeFetchWord_pc (s : State) (w : Word) : (s.placeFetchWord w).pc = s.pc := rfl
@[simp] theorem placeFetchWord_npc (s : State) (w : Word) : (s.placeFetchWord w).npc = s.npc := rfl
@[simp] theorem placeFetchWord_bd (s : State) (w : Word) : (s.placeFetchWord w).bd = s.bd := rfl
@[simp] theorem placeFetchWord_bt (s : State) (w : Word) : (s.placeFetchWord w).bt = s.bt := rfl
@[simp] theorem placeFetchWord_hi (s : State) (w : Word) : (s.placeFetchWord w).hi = s.hi := rfl
@[simp] theorem placeFetchWord_lo (s : State) (w : Word) : (s.placeFetchWord w).lo = s.lo := rfl
@[simp] theorem placeFetchWord_ld (s : State) (w : Word) : (s.placeFetchWord w).ld = s.ld := rfl
@[simp] theorem placeFetchWord_readAbsorb (s : State) (w : Word) : (s.placeFetchWord w).readAbsorb = s.readAbsorb := rfl
@[simp] theorem placeFetchWord_sr (s : State) (w : Word) : (s.placeFetchWord w).sr = s.sr := rfl
@[simp] theorem placeFetchWord_cause (s : State) (w : Word) : (s.placeFetchWord w).cause = s.cause := rfl
@[simp] theorem placeFetchWord_epc (s : State) (w : Word) : (s.placeFetchWord w).epc = s.epc := rfl
@[simp] theorem placeFetchWord_badVaddr (s : State) (w : Word) : (s.placeFetchWord w).badVaddr = s.badVaddr := rfl
@[simp] theorem placeFetchWord_tar (s : State) (w : Word) : (s.placeFetchWord w).tar = s.tar := rfl
@[simp] theorem placeFetchWord_prid (s : State) (w : Word) : (s.placeFetchWord w).prid = s.prid := rfl
@[simp] theorem placeFetchWord_bpc (s : State) (w : Word) : (s.placeFetchWord w).bpc = s.bpc := rfl
@[simp] theorem placeFetchWord_bda (s : State) (w : Word) : (s.placeFetchWord w).bda = s.bda := rfl
@[simp] theorem placeFetchWord_bdam (s : State) (w : Word) : (s.placeFetchWord w).bdam = s.bdam := rfl
@[simp] theorem placeFetchWord_bpcm (s : State) (w : Word) : (s.placeFetchWord w).bpcm = s.bpcm := rfl
@[simp] theorem placeFetchWord_dcic (s : State) (w : Word) : (s.placeFetchWord w).dcic = s.dcic := rfl
@[simp] theorem placeFetchWord_biu (s : State) (w : Word) : (s.placeFetchWord w).biu = s.biu := rfl
@[simp] theorem placeFetchWord_scratch (s : State) (w : Word) : (s.placeFetchWord w).scratch = s.scratch := rfl
@[simp] theorem placeFetchWord_mem (s : State) (w : Word) : (s.placeFetchWord w).mem = s.mem.writeLE (phys s.pc) 4 w := rfl
@[simp] theorem placeFetchWord_events (s : State) (w : Word) : (s.placeFetchWord w).events = s.events := rfl
@[simp] theorem placeFetchWord_timestamp (s : State) (w : Word) : (s.placeFetchWord w).timestamp = s.timestamp := rfl
@[simp] theorem placeFetchWord_draws (s : State) (w : Word) : (s.placeFetchWord w).draws = s.draws := rfl
@[simp] theorem placeFetchWord_ppu (s : State) (w : Word) : (s.placeFetchWord w).ppu = s.ppu := rfl

end Sys2Proof.Machine
end

