-- ==== Sys2Proof/Laws/Table.lean ====
section
/-!
SUPPORT. Laws of the sparse tables: what a read after a write gives, and that every operation keeps the canonical form.
-/

namespace Sys2Proof.Machine

section
variable {α : Type} {d : α}

/-! ## Reads after writes -/

theorem tableRead_insert (l : Table α) (k : Nat) (v : α) (j : Nat) :
    tableRead d (tableInsert l k v) j = if j = k then v else tableRead d l j := by
  induction l with
  | nil => simp only [tableInsert, tableRead, eq_comm]
  | cons e t ih =>
    obtain ⟨k', v'⟩ := e
    simp only [tableInsert]
    split_ifs with h1 h2 h3 h3 h3 <;> simp only [tableRead, ih] <;> split_ifs <;> first | rfl | omega

theorem tableRead_erase (l : Table α) (k j : Nat) :
    tableRead d (l.filter (fun e => e.1 != k)) j = if j = k then d else tableRead d l j := by
  induction l with
  | nil => simp [tableRead]
  | cons e t ih =>
    obtain ⟨k', v'⟩ := e
    rw [List.filter_cons]
    by_cases h : k' = k
    · subst h
      simp only [bne_self_eq_false, Bool.false_eq_true, if_false, ih, tableRead]
      split_ifs with h1 h2 <;> first | rfl | exact absurd h2.symm h1
    · have hb : (k' != k) = true := by simpa using h
      simp only [hb, if_true, tableRead, ih]
      split_ifs with h1 h2 <;> first | rfl | (subst h1; subst h2; exact absurd rfl h)

/-- A write makes its key hold the value and leaves every other key alone. -/
theorem tableRead_write [DecidableEq α] (l : Table α) (k : Nat) (v : α) (j : Nat) :
    tableRead d (tableWrite d l k v) j = if j = k then v else tableRead d l j := by
  unfold tableWrite
  split_ifs with h h' h'
  · subst h; rw [tableRead_erase, if_pos h']
  · rw [tableRead_erase, if_neg h']
  · rw [tableRead_insert, if_pos h']
  · rw [tableRead_insert, if_neg h']

/-! ## The canonical form -/

theorem tableInsert_key {l : Table α} {k : Nat} {v : α} {e : Nat × α} (h : e ∈ tableInsert l k v) :
    e = (k, v) ∨ e ∈ l := by
  induction l with
  | nil => simpa [tableInsert] using h
  | cons a t ih =>
    obtain ⟨k', v'⟩ := a
    simp only [tableInsert] at h
    split_ifs at h with h1 h2
    · simpa using h
    · rcases List.mem_cons.1 h with h | h
      · exact Or.inl h
      · exact Or.inr (List.mem_cons_of_mem _ h)
    · rcases List.mem_cons.1 h with h | h
      · exact Or.inr (h ▸ List.mem_cons_self)
      · exact (ih h).imp id (List.mem_cons_of_mem _)

theorem tableInsert_sorted {l : Table α} (k : Nat) (v : α) (h : l.Pairwise (fun a b => a.1 < b.1)) :
    (tableInsert l k v).Pairwise (fun a b => a.1 < b.1) := by
  induction l with
  | nil => simp [tableInsert]
  | cons a t ih =>
    obtain ⟨k', v'⟩ := a
    rw [List.pairwise_cons] at h
    simp only [tableInsert]
    split_ifs with h1 h2
    · refine List.pairwise_cons.2 ⟨fun e he => ?_, List.pairwise_cons.2 h⟩
      rcases List.mem_cons.1 he with rfl | he
      · exact h1
      · exact h1.trans (h.1 e he)
    · subst h2
      exact List.pairwise_cons.2 h
    · refine List.pairwise_cons.2 ⟨fun e he => ?_, ih h.2⟩
      rcases tableInsert_key he with rfl | he
      · exact lt_of_le_of_ne (not_lt.1 h1) (Ne.symm h2)
      · exact h.1 e he

/-- A write below the bound keeps the canonical form. -/
theorem tableWf_write [DecidableEq α] {bound : Nat} {l : Table α} (h : tableWf d bound l) {k : Nat} (hk : k < bound) (v : α) :
    tableWf d bound (tableWrite d l k v) := by
  unfold tableWrite
  split_ifs with hv
  · exact ⟨h.1.filter _, fun e he => h.2 e (List.mem_of_mem_filter he)⟩
  · refine ⟨tableInsert_sorted k v h.1, fun e he => ?_⟩
    rcases tableInsert_key he with rfl | he
    · exact ⟨hk, hv⟩
    · exact h.2 e he

theorem tableRead_of_lt {l : Table α} {k : Nat} (h : ∀ e ∈ l, k < e.1) : tableRead d l k = d := by
  induction l with
  | nil => rfl
  | cons a t ih =>
    obtain ⟨k', v'⟩ := a
    have h0 : k < k' := h _ List.mem_cons_self
    simp only [tableRead, if_neg (Nat.ne_of_gt h0)]
    exact ih fun e he => h e (List.mem_cons_of_mem _ he)

/-- Tables in canonical form that read alike are one table. -/
theorem tableWf_ext {bound : Nat} {l m : Table α} (hl : tableWf d bound l) (hm : tableWf d bound m)
    (h : ∀ k, tableRead d l k = tableRead d m k) : l = m := by
  induction l generalizing m with
  | nil =>
    cases m with
    | nil => rfl
    | cons b u =>
      have := h b.1
      simp only [tableRead, if_true] at this
      exact absurd this.symm (hm.2 b List.mem_cons_self).2
  | cons a t ih =>
    obtain ⟨ka, va⟩ := a
    have hla := List.pairwise_cons.1 hl.1
    have hva : va ≠ d := (hl.2 _ List.mem_cons_self).2
    cases m with
    | nil =>
      have := h ka
      simp only [tableRead, if_true] at this
      exact absurd this hva
    | cons b u =>
      obtain ⟨kb, vb⟩ := b
      have hmb := List.pairwise_cons.1 hm.1
      have hvb : vb ≠ d := (hm.2 _ List.mem_cons_self).2
      have ha := h ka
      have hb := h kb
      simp only [tableRead, if_true] at ha hb
      have hk : ka = kb := by
        by_contra hne
        rw [if_neg (Ne.symm hne)] at ha
        rw [if_neg hne] at hb
        rcases Nat.lt_or_gt_of_ne hne with hlt | hgt
        · exact hva (ha.trans (tableRead_of_lt fun e he => hlt.trans (hmb.1 e he)))
        · exact hvb (hb.symm.trans (tableRead_of_lt fun e he => hgt.trans (hla.1 e he)))
      subst hk
      rw [if_pos rfl] at ha
      subst ha
      congr 1
      refine ih ⟨hla.2, fun e he => hl.2 e (List.mem_cons_of_mem _ he)⟩
        ⟨hmb.2, fun e he => hm.2 e (List.mem_cons_of_mem _ he)⟩ fun k => ?_
      by_cases hk : ka = k
      · subst hk
        rw [tableRead_of_lt hla.1, tableRead_of_lt hmb.1]
      · simpa [tableRead, hk] using h k

end

/-! ## Bytes -/

/-- Reading a byte after writing one. -/
theorem Memory.read_write (m : Memory) (a : Nat) (b : Byte) (j : Nat) :
    (m.write a b).read j = if j = a then b else m.read j := tableRead_write m a b j

theorem Memory.write_wf {m : Memory} {bound : Nat} (h : tableWf 0 bound m) {a : Nat} (ha : a < bound) (b : Byte) :
    tableWf 0 bound (m.write a b) := tableWf_write h ha b

theorem Memory.writeLE_wf {w : Nat} {m : Memory} (h : tableWf 0 (2 ^ w) m) (p : BitVec w) (n : Nat) (v : Word) :
    tableWf 0 (2 ^ w) (m.writeLE p n v) := by
  induction n generalizing m p v with
  | zero => exact h
  | succ n ih => exact ih (Memory.write_wf h p.isLt _) _ _

/-- A store changes exactly its own bytes: byte `k` of the stored range takes bits 8k+7:8k of the value. -/
theorem Memory.read_writeLE {w : Nat} (m : Memory) (p : BitVec w) (n : Nat) (hn : n ≤ 2 ^ w) (v : Word) (a : BitVec w) :
    (m.writeLE p n v).read a.toNat =
      if (a - p).toNat < n then (v >>> (8 * (a - p).toNat)).setWidth 8 else m.read a.toNat := by
  induction n generalizing m p v with
  | zero => simp [Memory.writeLE]
  | succ n ih =>
    rw [Memory.writeLE, ih _ _ (by omega), Memory.read_write]
    have key : a = p ∨ (a ≠ p ∧ (a - p).toNat = (a - (p + 1)).toNat + 1) := by
      by_cases hap : a = p
      · exact Or.inl hap
      · refine Or.inr ⟨hap, ?_⟩
        have h0 : a - p ≠ 0 := fun h => hap (by simpa [BitVec.sub_eq_iff_eq_add] using h)
        have h1 : (a - p).toNat ≠ 0 := fun h => h0 (BitVec.eq_of_toNat_eq (by simpa using h))
        have h2 : a - (p + 1) = (a - p) - 1#w := sub_add_eq_sub_sub a p 1
        have h3 : 1 < 2 ^ w := by have := (a - p).isLt; omega
        generalize a - p = x at h1 h2 ⊢
        rw [h2, BitVec.toNat_sub, BitVec.toNat_ofNat, Nat.mod_eq_of_lt h3,
          show 2 ^ w - 1 + x.toNat = (x.toNat - 1) + 2 ^ w by omega, Nat.add_mod_right,
          Nat.mod_eq_of_lt (by have := x.isLt; omega)]
        omega
    rcases key with rfl | ⟨hne, hk⟩
    · have h1 : (a - (a + 1)).toNat = 2 ^ w - 1 := by
        have : a - (a + 1) = -1#w := by
          rw [sub_add_eq_sub_sub a a 1, sub_self, zero_sub]; rfl
        rw [this, BitVec.toNat_neg]
        rcases Nat.eq_zero_or_pos w with rfl | hw
        · simp
        · have : 1 < 2 ^ w := Nat.one_lt_two_pow hw.ne'
          rw [BitVec.toNat_ofNat, Nat.mod_eq_of_lt this, Nat.mod_eq_of_lt (by omega)]
      rw [if_neg (by omega), if_pos rfl, if_pos (by simp)]
      simp
    · rw [if_neg (fun h => hne (BitVec.eq_of_toNat_eq h))]
      rw [hk]
      have : (a - (p + 1)).toNat + 1 < n + 1 ↔ (a - (p + 1)).toNat < n := by omega
      simp only [this]
      split_ifs
      · rw [← BitVec.shiftRight_add]; congr 2; omega
      · rfl

/-- A store leaves every byte outside its range alone. -/
theorem Memory.read_writeLE_other {w : Nat} (m : Memory) (p : BitVec w) (n : Nat) (v : Word) (j : Nat)
    (h : ∀ k < n, j ≠ (p + BitVec.ofNat w k).toNat) : (m.writeLE p n v).read j = m.read j := by
  induction n generalizing m p v with
  | zero => rfl
  | succ n ih =>
    rw [Memory.writeLE, ih _ _ _ fun k hk => ?_, Memory.read_write, if_neg (by simpa using h 0 (by omega))]
    have := h (k + 1) (by omega)
    rwa [show p + BitVec.ofNat w (k + 1) = p + 1 + BitVec.ofNat w k by
      rw [BitVec.add_assoc]; congr 1; rw [Nat.add_comm, BitVec.ofNat_add]; rfl] at this

/-- The bits of a little-endian read: byte `k` is bits 8k+7:8k (R69). -/
theorem Memory.getLsbD_readLE {w : Nat} (m : Memory) (p : BitVec w) (n i : Nat) :
    (m.readLE p n).getLsbD i =
      (decide (i < 32) && decide (i < 8 * n) && (m.read (p + BitVec.ofNat w (i / 8)).toNat).getLsbD (i % 8)) := by
  induction n generalizing p i with
  | zero => simp [Memory.readLE]
  | succ n ih =>
    simp only [Memory.readLE, BitVec.getLsbD_or, BitVec.getLsbD_setWidth, BitVec.getLsbD_shiftLeft, ih]
    by_cases hi : i < 8
    · have h0 : i / 8 = 0 := by omega
      have h1 : i % 8 = i := by omega
      have h2 : i < 8 * (n + 1) := by omega
      simp [hi, h0, h1, h2]
    · have h0 : i / 8 = (i - 8) / 8 + 1 := by omega
      have h1 : i % 8 = (i - 8) % 8 := by omega
      have h2 : (m.read p.toNat).getLsbD i = false := BitVec.getLsbD_of_ge _ _ (by omega)
      have h3 : p + 1 + BitVec.ofNat w ((i - 8) / 8) = p + BitVec.ofNat w (i / 8) := by
        rw [h0, Nat.add_comm _ 1, BitVec.ofNat_add, BitVec.add_assoc]; rfl
      have h4 : (i - 8 < 8 * n) ↔ (i < 8 * (n + 1)) := by omega
      rw [h2, h3, ← h1]
      by_cases h5 : i < 32
      · by_cases h6 : i < 8 * (n + 1) <;> simp [h5, h6, h4, show i - 8 < 32 by omega, hi]
      · simp [h5]

/-- A read of what was just stored gives the stored bytes (R66, R87). -/
theorem Memory.readLE_writeLE {w : Nat} (m : Memory) (p : BitVec w) (n : Nat) (hn : n ≤ 4) (hw : 2 ≤ w) (v : Word) :
    (m.writeLE p n v).readLE p n = lowBytes n v := by
  have h4 : 2 ^ 2 ≤ 2 ^ w := Nat.pow_le_pow_right (by omega) hw
  apply BitVec.eq_of_getLsbD_eq
  intro i hi
  rw [Memory.getLsbD_readLE]
  simp only [lowBytes, BitVec.getLsbD_setWidth, hi, decide_true, Bool.true_and]
  by_cases h : i < 8 * n
  · have hk : i / 8 < n := by omega
    have hs : p + BitVec.ofNat w (i / 8) - p = BitVec.ofNat w (i / 8) := by
      rw [BitVec.add_comm, BitVec.add_sub_cancel]
    have ht : (BitVec.ofNat w (i / 8)).toNat = i / 8 := by
      rw [BitVec.toNat_ofNat, Nat.mod_eq_of_lt (by omega)]
    rw [Memory.read_writeLE _ _ _ (by omega), hs, ht, if_pos hk]
    have h8 : i % 8 < 8 := Nat.mod_lt _ (by omega)
    simp only [h, decide_true, Bool.true_and, BitVec.getLsbD_setWidth, h8, BitVec.getLsbD_ushiftRight]
    rw [show 8 * (i / 8) + i % 8 = i by omega]
  · simp [h]

/-! ## The instruction cache -/

theorem ICache.read_write (c : ICache) (i : BitVec 10) (e : IcEntry) (j : BitVec 10) :
    (c.write i e).read j = if j = i then e else c.read j := by
  simp only [ICache.read, ICache.write, tableRead_write]
  by_cases h : j = i
  · simp [h]
  · rw [if_neg h, if_neg fun h' => h (BitVec.eq_of_toNat_eq h')]

theorem ICache.write_wf {c : ICache} (h : c.wf) (i : BitVec 10) (e : IcEntry) : (c.write i e).wf :=
  tableWf_write h i.isLt e

theorem tableRead_map_filter (f : Word → Word) (o : IcEntry) (l : Table IcEntry) (k : Nat) (h : l.Pairwise (fun a b => a.1 < b.1)) :
    tableRead { o with tv := f o.tv }
      ((l.map (fun e => (e.1, { e.2 with tv := f e.2.tv }))).filter (fun e => e.2 != { o with tv := f o.tv })) k =
      { tableRead o l k with tv := f (tableRead o l k).tv } := by
  induction l with
  | nil => rfl
  | cons a t ih =>
    obtain ⟨k', v'⟩ := a
    have hp := List.pairwise_cons.1 h
    rw [List.map_cons, List.filter_cons]
    simp only [tableRead]
    by_cases hv : ({ v' with tv := f v'.tv } : IcEntry) = { o with tv := f o.tv }
    · have hb : (({ v' with tv := f v'.tv } : IcEntry) != { o with tv := f o.tv }) = false := by simpa using hv
      simp only [hb, Bool.false_eq_true, if_false]
      by_cases hk : k' = k
      · rw [if_pos hk, hv]
        refine tableRead_of_lt fun e he => ?_
        obtain ⟨e', he', rfl⟩ := List.mem_map.1 (List.mem_of_mem_filter he)
        exact hk ▸ hp.1 e' he'
      · rw [if_neg hk]; exact ih hp.2
    · have hb : (({ v' with tv := f v'.tv } : IcEntry) != { o with tv := f o.tv }) = true := by simpa using hv
      simp only [hb, if_true, tableRead]
      by_cases hk : k' = k
      · rw [if_pos hk, if_pos hk]
      · rw [if_neg hk, if_neg hk]; exact ih hp.2

/-- `mapTv` changes the TV word of every entry, whether listed or not (R41). -/
theorem ICache.read_mapTv {c : ICache} (h : c.wf) (f : Word → Word) (i : BitVec 10) :
    (c.mapTv f).read i = { c.read i with tv := f (c.read i).tv } :=
  tableRead_map_filter f c.other c.listed i.toNat h.1

theorem ICache.mapTv_wf {c : ICache} (h : c.wf) (f : Word → Word) : (c.mapTv f).wf := by
  refine ⟨List.Pairwise.filter _ (List.pairwise_map.2 h.1), fun e he => ?_⟩
  obtain ⟨he1, he2⟩ := List.mem_filter.1 he
  obtain ⟨e', he', rfl⟩ := List.mem_map.1 he1
  exact ⟨(h.2 e' he').1, bne_iff_ne.1 he2⟩

end Sys2Proof.Machine
end

