-- ==== Sys2Proof/Laws/Ops.lean ====
section
/-!
SUPPORT. What each shared operation can do, said once: the registers, the pending load, the ends of an instruction, memory.
-/

namespace Sys2Proof.Machine

/-! ## General registers -/

@[simp] theorem reg_zero (s : State) : s.reg 0 = 0 := rfl

/-- A read of a register depends on the register file alone. -/
theorem reg_congr {s t : State} (h : t.regs = s.regs) (r : RegNum) : t.reg r = s.reg r := by
  simp only [State.reg, h]

/-- One slot of a register file after a write of register `r`. -/
theorem writeRegs_slot (regs : Vector Word 32) (r : RegNum) (v : Word) (q : RegNum) :
    (writeRegs regs r v)[q.toNat]'q.isLt = if q = r ∧ q ≠ 0 then v else regs[q.toNat]'q.isLt := by
  by_cases hr : r = 0
  · have : writeRegs regs r v = regs := if_pos hr
    rw [if_neg (fun h => h.2 (h.1.trans hr))]
    simp only [this]
  · have : writeRegs regs r v = regs.set r.toNat v r.isLt := if_neg hr
    simp only [this, Vector.getElem_set]
    by_cases hqr : q = r
    · subst hqr; rw [if_pos rfl, if_pos ⟨rfl, hr⟩]
    · rw [if_neg (fun h => hqr (BitVec.eq_of_toNat_eq h).symm), if_neg (fun h => hqr h.1)]

/-- Register reads of a state with register file `writeRegs s.regs r v`. -/
theorem reg_of_writeRegs {s t : State} {r : RegNum} {v : Word} (h : t.regs = writeRegs s.regs r v) (q : RegNum) :
    t.reg q = if q = r ∧ q ≠ 0 then v else s.reg q := by
  unfold State.reg
  simp only [h, writeRegs_slot]
  split_ifs <;> first | rfl | (exfalso; simp_all)

/-- A register write changes that register alone, and r0 never (R21). -/
theorem reg_setReg (s : State) (r : RegNum) (v : Word) (q : RegNum) :
    (s.setReg r v).reg q = if q = r ∧ q ≠ 0 then v else s.reg q := reg_of_writeRegs rfl q

/-- A write of a register keeps the zero in r0's slot. -/
theorem writeRegs_slot0 (regs : Vector Word 32) (r : RegNum) (v : Word) : (writeRegs regs r v)[0] = regs[0] := by
  unfold writeRegs
  split_ifs with h
  · rfl
  · exact Vector.getElem_set_ne _ _ fun h' => h (BitVec.eq_of_toNat_eq h')

@[simp] theorem zeroR0_reg (s : State) (r : RegNum) : s.zeroR0.reg r = s.reg r := by
  by_cases h : r = 0
  · subst h; rfl
  · have hn : 0 ≠ r.toNat := fun h' => h (BitVec.eq_of_toNat_eq h'.symm)
    simp only [State.reg, if_neg h, zeroR0_regs]
    exact Vector.getElem_set_ne _ _ hn

@[simp] theorem advance_reg (s : State) (r : RegNum) : s.advance.reg r = s.reg r := rfl
@[simp] theorem delayBranch_reg (s : State) (c : Bool) (a : Word) (r : RegNum) : (s.delayBranch c a).reg r = s.reg r := rfl
@[simp] theorem tick_reg (s : State) (r : RegNum) : s.tick.reg r = s.reg r := rfl
@[simp] theorem trapEntry_reg (s : State) (e : Exc) (ce : BitVec 2) (r : RegNum) :
    (s.trapEntry e ce).reg r = s.commitLoad.reg r := rfl

/-! ## The pending load -/

/-- Phase 6c: the pending value reaches its register, unless that is r0 (R136). -/
theorem commitLoad_reg (s : State) (q : RegNum) :
    s.commitLoad.reg q =
      match s.ld with
      | none => s.reg q
      | some l => if q = l.reg ∧ q ≠ 0 then l.val else s.reg q := by
  unfold State.commitLoad committedRegs
  cases h : s.ld with
  | none => rfl
  | some l => exact reg_of_writeRegs rfl q

/-- A load-delayed instruction leaves its own destination alone and commits a pending load of any other register (R138). -/
theorem loadDelayed_reg (s : State) (r : RegNum) (v : Word) (q : RegNum) :
    (s.loadDelayed r v).reg q = if q = r then s.reg q else s.commitLoad.reg q := by
  rw [commitLoad_reg]
  unfold State.loadDelayed committedRegsUnlessTo
  cases h : s.ld with
  | none => simp [State.reg]
  | some l =>
    by_cases hl : l.reg = r
    · simp only [hl, if_true]
      by_cases hq : q = r
      · simp [hq, State.reg]
      · simp [hq, State.reg]
    · simp only [if_neg hl]
      rw [reg_of_writeRegs (s := s) rfl]
      by_cases hq : q = r
      · subst hq; simp [Ne.symm hl]
      · simp [hq]

/-! ## How an instruction ends -/

theorem raise_eq (e : Exc) (op : Opcode) (s : State) : raise e op s = .next (s.trapEntry e (op.extractLsb' 0 2)) := rfl

theorem retire_eq (f : State → State) (s : State) : retire f s = .next (f s.commitLoad).advance := rfl

theorem retireLoad_eq (r : RegNum) (v : Word) (s : State) : retireLoad r v s = .next (s.loadDelayed r v).advance := rfl

/-- A branch outside a delay slot completes. -/
theorem branch_eq {s : State} (h : s.bd = false) (c : Bool) (a : Word) (f : State → State) :
    branch c a f s = .next ((f s.commitLoad).delayBranch c a) := by simp [branch, h]

/-- A branch in a delay slot is refused (R143). -/
theorem branch_refused {s : State} (h : s.bd = true) (c : Bool) (a : Word) (f : State → State) :
    branch c a f s = .refused .branchInDelaySlot := by simp [branch, h]

/-- A branch that answers a next state was in no delay slot. -/
theorem branch_next {s t : State} {c : Bool} {a : Word} {f : State → State} (h : branch c a f s = .next t) :
    s.bd = false ∧ t = (f s.commitLoad).delayBranch c a := by
  cases hb : s.bd with
  | true => rw [branch_refused hb] at h; cases h
  | false => rw [branch_eq hb] at h; exact ⟨rfl, (Host.Outcome.next.inj h).symm⟩

theorem requireCop_usable {z : BitVec 2} {s : State} (h : s.copUsable z = true) (op : Opcode) (k : Out) :
    requireCop z op s k = k := by simp [requireCop, h]

theorem requireCop_unusable {z : BitVec 2} {s : State} (h : s.copUsable z = false) (op : Opcode) (k : Out) :
    requireCop z op s k = raise .cpU op s := by simp [requireCop, h]

/-! ## Data memory -/

theorem phys_of_low {a : Word} (h : a.extractLsb' 29 3 ≠ 4#3) (h' : a.extractLsb' 29 3 ≠ 5#3) : phys a = a := by
  unfold phys; split <;> first | (exfalso; contradiction) | rfl

/-- The bits of a physical address below 29 are the address's own (R62). -/
theorem phys_getLsbD (a : Word) {i : Nat} (hi : i < 29) : (phys a).getLsbD i = a.getLsbD i := by
  unfold phys
  split
  · rw [BitVec.getLsbD_and]; interval_cases i <;> simp
  · rw [BitVec.getLsbD_and]; interval_cases i <;> simp
  · rfl

/-- The low bits of a physical address are the address's own (R62). -/
theorem phys_low (a : Word) (n : Nat) (hn : n ≤ 29) : (phys a).extractLsb' 0 n = a.extractLsb' 0 n := by
  apply BitVec.eq_of_getLsbD_eq
  intro i hi
  simp only [BitVec.getLsbD_extractLsb', hi, decide_true, Bool.true_and, Nat.zero_add]
  exact phys_getLsbD a (by omega)

theorem memRead_scratch {a : Word} (h : inScratch (phys a) = true) (n : Nat) (s : State) :
    memRead a n s = .ok (s.scratch.readLE (scratchOffset (phys a)) n, s) := by simp [memRead, h]

theorem memRead_biu {a : Word} (h : phys a = biuAddress) (s : State) : memRead a 4 s = .ok (s.biu, s) := by
  simp [memRead, h, show inScratch biuAddress = false from by decide]

/-- An access of BIU by another width than 4 is refused (R67). -/
theorem memRead_biu_partial {a : Word} (h : phys a = biuAddress) {n : Nat} (hn : n ≠ 4) (s : State) :
    memRead a n s = .error .biuPartialAccess := by
  simp [memRead, h, hn, show inScratch biuAddress = false from by decide]

theorem memRead_ext {a : Word} (h : inScratch (phys a) = false) (h' : phys a ≠ biuAddress) (n : Nat) (s : State) :
    memRead a n s = .ok (s.extRead (phys a) n) := by simp [memRead, h, h']

/-- A read changes nothing but the record of external requests. -/
theorem memRead_state {a : Word} {n : Nat} {s s' : State} {m : Word} (h : memRead a n s = .ok (m, s')) :
    s' = s ∨ s' = { s with events := .extRead (phys a) n :: s.events } := by
  simp only [memRead] at h
  split_ifs at h
  · cases h; exact .inl rfl
  · cases h; exact .inl rfl
  · cases h; exact .inr rfl

/-- A read is refused only for a partial access of BIU. -/
theorem memRead_total {a : Word} {n : Nat} (h : n = 4 ∨ phys a ≠ biuAddress) (s : State) :
    ∃ m s', memRead a n s = .ok (m, s') := by
  simp only [memRead]
  split_ifs with h1 h2 h3
  · exact ⟨_, _, rfl⟩
  · exact ⟨_, _, rfl⟩
  · exact absurd h2 (h.resolve_left h3)
  · exact ⟨_, _, rfl⟩

theorem memWrite_isolated {s : State} (h : s.isc = true) (a : Word) (n : Nat) (v : Word) :
    memWrite a n v s = .ok (s.isolatedStore a n v) := by simp [memWrite, h]

theorem memWrite_scratch {s : State} (h : s.isc = false) {a : Word} (ha : inScratch (phys a) = true) (n : Nat) (v : Word) :
    memWrite a n v s = .ok { s with scratch := s.scratch.writeLE (scratchOffset (phys a)) n v } := by
  simp [memWrite, h, ha]

theorem memWrite_biu {s : State} (h : s.isc = false) {a : Word} (ha : phys a = biuAddress) (v : Word) :
    memWrite a 4 v s = .ok (s.biuWrite v) := by
  simp [memWrite, h, ha, show inScratch biuAddress = false from by decide]

theorem memWrite_biu_partial {s : State} (h : s.isc = false) {a : Word} (ha : phys a = biuAddress) {n : Nat} (hn : n ≠ 4)
    (v : Word) : memWrite a n v s = .error .biuPartialAccess := by
  simp [memWrite, h, ha, hn, show inScratch biuAddress = false from by decide]

theorem memWrite_ext {s : State} (h : s.isc = false) {a : Word} (ha : inScratch (phys a) = false)
    (hb : phys a ≠ biuAddress) (n : Nat) (v : Word) : memWrite a n v s = .ok (s.extWrite (phys a) n v) := by
  simp [memWrite, h, ha, hb]

/-- Everything a data write can do (R72). -/
theorem memWrite_cases {a : Word} {n : Nat} {v : Word} {s s' : State} (h : memWrite a n v s = .ok s') :
    s' = s.isolatedStore a n v ∨ s' = { s with scratch := s.scratch.writeLE (scratchOffset (phys a)) n v } ∨
      s' = s.biuWrite v ∨ s' = s.extWrite (phys a) n v := by
  simp only [memWrite] at h
  split_ifs at h <;> cases h <;> simp

/-! ## Memory operations keep the canonical forms -/

/-- A recorded external write keeps the memory's form. -/
theorem extWrite_mem_wf {s : State} (h : s.mem.wf) (p : Word) (n : Nat) (v : Word) : (s.extWrite p n v).mem.wf := by
  simp only [State.extWrite]
  split
  · exact Memory.writeLE_wf h p n v
  · exact h

theorem biuWrite_ic_wf {s : State} (h : s.ic.wf) (v : Word) : (s.biuWrite v).ic.wf := by
  simp only [State.biuWrite]
  split_ifs
  · exact h
  · exact ICache.mapTv_wf h _
  · exact ICache.mapTv_wf h _

theorem isolatedCache_wf {s : State} (h : s.ic.wf) (a v : Word) : (isolatedCache a v s).wf := by
  unfold isolatedCache
  split_ifs
  · exact ICache.write_wf (ICache.write_wf (ICache.write_wf (ICache.write_wf h _ _) _ _) _ _) _ _
  · exact ICache.write_wf h _ _
  · exact h
  · exact h

theorem isolatedScratch_wf {s : State} (h : s.scratch.scratchWf) (a : Word) (n : Nat) (v : Word) :
    (isolatedScratch a n v s).scratchWf := by
  unfold isolatedScratch
  split_ifs
  · exact Memory.writeLE_wf (w := 10) h _ _ _
  · exact h

/-- Every data write keeps the canonical form of the memory, the scratchpad and the cache. -/
theorem memWrite_wf {a : Word} {n : Nat} {v : Word} {s s' : State} (h : memWrite a n v s = .ok s')
    (hm : s.mem.wf) (hs : s.scratch.scratchWf) (hc : s.ic.wf) : s'.mem.wf ∧ s'.scratch.scratchWf ∧ s'.ic.wf := by
  rcases memWrite_cases h with rfl | rfl | rfl | rfl
  · exact ⟨hm, isolatedScratch_wf hs _ _ _, isolatedCache_wf hc _ _⟩
  · exact ⟨hm, Memory.writeLE_wf (w := 10) hs _ _ _, hc⟩
  · exact ⟨hm, hs, biuWrite_ic_wf hc _⟩
  · exact ⟨extWrite_mem_wf hm _ _ _, hs, hc⟩

/-- The state after reset has every table in canonical form. -/
theorem reset_wf : State.reset.mem.wf ∧ State.reset.scratch.scratchWf ∧ State.reset.ic.wf := by decide

end Sys2Proof.Machine
end

