-- ==== Sys2Proof/Laws/Exec.lean ====
section
/-!
SUPPORT. Inversion of `exec`: everything an instruction that answers a next state can have done, said once for all instructions.
-/

namespace Sys2Proof.Machine

open Sys2Proof.Claims

/-- The exception codes an instruction can raise. -/
def raised : List (BitVec 5) := [4, 5, 8, 9, 10, 11, 12]

/-- Everything an instruction that answers a next state can have done to `s`. -/
inductive Did (i : Instr) (s : State) : State → Prop
  /-- it took an exception -/
  | trap (e : Exc) (h : excCode e ∈ raised) : Did i s (s.trapEntry e ((opcodeOf i).extractLsb' 0 2))
  /-- it wrote a general register -/
  | result (r : RegNum) (v : Word) (h : resultRegister i = some r) (hb : i.isBranch = false) :
      Did i s (s.commitLoad.setReg r v).advance
  /-- it wrote HI and LO -/
  | hiLo (hi lo : Word) (h : writesHiLo i = true) : Did i s (State.advance { s.commitLoad with hi := hi, lo := lo })
  /-- it did nothing -/
  | nothing (h : resultRegister i = none) : Did i s s.commitLoad.advance
  /-- it branched -/
  | branched (c : Bool) (a : Word) (h : i.isBranch = true) (hr : resultRegister i = none) (hs : s.bd = false) :
      Did i s (s.commitLoad.delayBranch c a)
  /-- it linked and branched -/
  | linked (r : RegNum) (c : Bool) (a : Word) (h : i.isBranch = true) (hr : resultRegister i = some r) (hs : s.bd = false) :
      Did i s ((link r s.pc s.commitLoad).delayBranch c a)
  /-- it loaded a register after the load delay, and may have asked an agent outside -/
  | loaded (r : RegNum) (v : Word) (ev : List Event) (h : loadDelayedInto i = some r) :
      Did i s (State.loadDelayed { s with events := ev } r v).advance
  /-- it stored, at an address R64 allows, and may have asked the GTE first -/
  | stored (a : Word) (n : Nat) (v : Word) (ev : List Event) (s' : State) (h : isStore i = true) (ha : s.ksegFault a = false)
      (hw : memWrite a n v (State.commitLoad { s with events := ev }) = .ok s') : Did i s s'.advance
  /-- it asked an agent outside and no more -/
  | asked (ev : List Event) (h : resultRegister i = none) : Did i s (State.advance { s.commitLoad with events := ev })
  /-- it was MTC0 -/
  | movedToCop0 (n : RegNum) (v : Word) (h : s.copUsable 0 = true) (hr : resultRegister i = none) :
      Did i s (s.commitLoad.cop0Write n v).advance
  /-- it was RFE -/
  | returned (h : s.copUsable 0 = true) (hr : resultRegister i = none) : Did i s s.commitLoad.returnFromException.advance

/-! ## One lemma per shape of a meaning -/

theorem did_raise {i : Instr} {s t : State} {e : Exc} {op : Opcode} (h : raise e op s = .next t)
    (he : excCode e ∈ raised) (ho : opField (encode i) = op) : Did i s t := by
  cases h; subst ho; exact .trap e he

theorem did_writeReg {i : Instr} {s t : State} {r : RegNum} {v : Word} (h : writeReg r v s = .next t)
    (hr : resultRegister i = some r) (hb : i.isBranch = false) : Did i s t := by
  cases h; exact .result r v hr hb

theorem did_writeHiLo {i : Instr} {s t : State} {hi lo : Word} (h : writeHiLo hi lo s = .next t) (hw : writesHiLo i = true) :
    Did i s t := by
  cases h; exact .hiLo hi lo hw

theorem did_noOperation {i : Instr} {s t : State} (h : noOperation s = .next t) (hr : resultRegister i = none) : Did i s t := by
  cases h; exact .nothing hr

theorem did_trapping {i : Instr} {s t : State} {b : Bool} {r : RegNum} {v : Word} {op : Opcode}
    (h : (if b then raise .ov op s else writeReg r v s) = .next t) (ho : opField (encode i) = op)
    (hr : resultRegister i = some r) (hb : i.isBranch = false) : Did i s t := by
  split at h
  · exact did_raise h (by decide) ho
  · exact did_writeReg h hr hb

theorem did_branch {i : Instr} {s t : State} {c : Bool} {a : Word} (h : branch c a id s = .next t) (hb : i.isBranch = true)
    (hr : resultRegister i = none) : Did i s t := by
  obtain ⟨hs, rfl⟩ := branch_next h
  exact .branched c a hb hr hs

theorem did_link {i : Instr} {s t : State} {c : Bool} {a : Word} {r : RegNum} (h : branch c a (link r s.pc) s = .next t)
    (hb : i.isBranch = true) (hr : resultRegister i = some r) : Did i s t := by
  obtain ⟨hs, rfl⟩ := branch_next h
  exact .linked r c a hb hr hs

theorem did_requireCop {i : Instr} {s t : State} {z : BitVec 2} {op : Opcode} {k : Out} (h : requireCop z op s k = .next t)
    (ho : opField (encode i) = op) (hk : s.copUsable z = true → k = .next t → Did i s t) : Did i s t := by
  cases hu : s.copUsable z with
  | true => rw [requireCop_usable hu] at h; exact hk hu h
  | false => rw [requireCop_unusable hu] at h; exact did_raise h (by decide) ho

theorem did_loadInto {i : Instr} {s t : State} {r : RegNum} {a : Word} {n : Nat} {f : Word → Word}
    (h : loadInto r a n f s = .next t) (hr : loadDelayedInto i = some r) : Did i s t := by
  unfold loadInto at h
  split at h
  · cases h
  · rename_i m s' hm
    cases h
    rcases memRead_state hm with rfl | rfl
    · exact .loaded r (f m) s'.events hr
    · exact .loaded r (f m) _ hr

theorem did_checkLoad {i : Instr} {s t : State} {op : Opcode} {w : Nat} {a : Word} {k : Out}
    (h : checkLoad op w a s k = .next t) (ho : opField (encode i) = op) (hk : k = .next t → Did i s t) : Did i s t := by
  unfold checkLoad at h
  split at h
  · exact did_raise h (by simp [excCode, raised]) ho
  · exact hk h

theorem did_checkStore {i : Instr} {s t : State} {op : Opcode} {w : Nat} {a : Word} {k : Out}
    (h : checkStore op w a s k = .next t) (ho : opField (encode i) = op)
    (hk : s.ksegFault a = false → k = .next t → Did i s t) : Did i s t := by
  unfold checkStore at h
  split at h
  · exact did_raise h (by simp [excCode, raised]) ho
  · rename_i hc
    exact hk (by simpa using hc : misaligned w a = false ∧ s.ksegFault a = false).2 h

theorem did_storeTo {i : Instr} {s t : State} {a : Word} {n : Nat} {v : Word} {ev : List Event}
    (h : storeTo a n v { s with events := ev } = .next t) (hi : isStore i = true) (ha : s.ksegFault a = false) : Did i s t := by
  unfold storeTo at h
  split at h
  · cases h
  · rename_i s' hm
    cases h
    exact .stored a n v ev s' hi ha hm

/-- The aligned word of an address lies in the same half of the address space. -/
theorem ksegFault_wordBase (s : State) (a : Word) : s.ksegFault (wordBase a) = s.ksegFault a := by
  simp [State.ksegFault, wordBase]

/-! ## The awkward ones -/

theorem did_mfc0 {rt rd : RegNum} {s t : State} (h : execMfc0 rt rd s = .next t) : Did (.mfc0 rt rd) s t := by
  refine did_requireCop h (opField_rWord ..) fun _ h => ?_
  split at h
  · exact did_raise h (by decide) (opField_rWord ..)
  · exact did_noOperation h rfl
  · cases h; exact .loaded rt _ s.events rfl

theorem did_lwc2 {rt rs : RegNum} {imm : BitVec 16} {s t : State} (h : execLwc2 rt rs imm s = .next t) :
    Did (.lwc2 rt rs imm) s t := by
  refine did_requireCop h (opField_iWord ..) fun _ h => did_checkLoad h (opField_iWord ..) fun h => ?_
  split at h
  · cases h
  · rename_i m s' hm
    cases h
    rcases memRead_state hm with rfl | rfl
    · exact .asked _ rfl
    · exact .asked _ rfl

/-- Inversion of `exec`. -/
theorem exec_did {i : Instr} {s t : State} (h : exec i s = .next t) : Did i s t := by
  cases i with
  | sll => exact did_writeReg h rfl rfl
  | srl => exact did_writeReg h rfl rfl
  | sra => exact did_writeReg h rfl rfl
  | sllv => exact did_writeReg h rfl rfl
  | srlv => exact did_writeReg h rfl rfl
  | srav => exact did_writeReg h rfl rfl
  | jr => exact did_branch h rfl rfl
  | jalr => exact did_link h rfl rfl
  | syscall => exact did_raise h (by decide) (by simp [encode])
  | brk => exact did_raise h (by decide) (by simp [encode])
  | mfhi => exact did_writeReg h rfl rfl
  | mthi => exact did_writeHiLo h rfl
  | mflo => exact did_writeReg h rfl rfl
  | mtlo => exact did_writeHiLo h rfl
  | mult => exact did_writeHiLo h rfl
  | multu => exact did_writeHiLo h rfl
  | div => exact did_writeHiLo h rfl
  | divu => exact did_writeHiLo h rfl
  | add => exact did_trapping h (opField_rWord ..) rfl rfl
  | addu => exact did_writeReg h rfl rfl
  | sub => exact did_trapping h (opField_rWord ..) rfl rfl
  | subu => exact did_writeReg h rfl rfl
  | and => exact did_writeReg h rfl rfl
  | or => exact did_writeReg h rfl rfl
  | xor => exact did_writeReg h rfl rfl
  | nor => exact did_writeReg h rfl rfl
  | slt => exact did_writeReg h rfl rfl
  | sltu => exact did_writeReg h rfl rfl
  | bltz => exact did_branch h rfl rfl
  | bgez => exact did_branch h rfl rfl
  | bltzAliasRt2 => exact did_branch h rfl rfl
  | bgezAliasRt3 => exact did_branch h rfl rfl
  | bltzAliasRt4 => exact did_branch h rfl rfl
  | bgezAliasRt5 => exact did_branch h rfl rfl
  | bltzAliasRt6 => exact did_branch h rfl rfl
  | bgezAliasRt7 => exact did_branch h rfl rfl
  | bltzAliasRt8 => exact did_branch h rfl rfl
  | bgezAliasRt9 => exact did_branch h rfl rfl
  | bltzAliasRt10 => exact did_branch h rfl rfl
  | bgezAliasRt11 => exact did_branch h rfl rfl
  | bltzAliasRt12 => exact did_branch h rfl rfl
  | bgezAliasRt13 => exact did_branch h rfl rfl
  | bltzAliasRt14 => exact did_branch h rfl rfl
  | bgezAliasRt15 => exact did_branch h rfl rfl
  | bltzal => exact did_link h rfl rfl
  | bgezal => exact did_link h rfl rfl
  | bltzAliasRt18 => exact did_branch h rfl rfl
  | bgezAliasRt19 => exact did_branch h rfl rfl
  | bltzAliasRt20 => exact did_branch h rfl rfl
  | bgezAliasRt21 => exact did_branch h rfl rfl
  | bltzAliasRt22 => exact did_branch h rfl rfl
  | bgezAliasRt23 => exact did_branch h rfl rfl
  | bltzAliasRt24 => exact did_branch h rfl rfl
  | bgezAliasRt25 => exact did_branch h rfl rfl
  | bltzAliasRt26 => exact did_branch h rfl rfl
  | bgezAliasRt27 => exact did_branch h rfl rfl
  | bltzAliasRt28 => exact did_branch h rfl rfl
  | bgezAliasRt29 => exact did_branch h rfl rfl
  | bltzAliasRt30 => exact did_branch h rfl rfl
  | bgezAliasRt31 => exact did_branch h rfl rfl
  | j => exact did_branch h rfl rfl
  | jal => exact did_link h rfl rfl
  | beq => exact did_branch h rfl rfl
  | bne => exact did_branch h rfl rfl
  | blez => exact did_branch h rfl rfl
  | bgtz => exact did_branch h rfl rfl
  | addi => exact did_trapping h (opField_iWord ..) rfl rfl
  | addiu => exact did_writeReg h rfl rfl
  | slti => exact did_writeReg h rfl rfl
  | sltiu => exact did_writeReg h rfl rfl
  | andi => exact did_writeReg h rfl rfl
  | ori => exact did_writeReg h rfl rfl
  | xori => exact did_writeReg h rfl rfl
  | lui => exact did_writeReg h rfl rfl
  | cop1 => exact did_requireCop h (opField_jWord ..) fun _ h => nomatch h
  | cop3 => exact did_requireCop h (opField_jWord ..) fun _ h => nomatch h
  | lb => exact did_checkLoad h (opField_iWord ..) fun h => did_loadInto h rfl
  | lh => exact did_checkLoad h (opField_iWord ..) fun h => did_loadInto h rfl
  | lwl => exact did_checkLoad h (opField_iWord ..) fun h => did_loadInto h rfl
  | lw => exact did_checkLoad h (opField_iWord ..) fun h => did_loadInto h rfl
  | lbu => exact did_checkLoad h (opField_iWord ..) fun h => did_loadInto h rfl
  | lhu => exact did_checkLoad h (opField_iWord ..) fun h => did_loadInto h rfl
  | lwr => exact did_checkLoad h (opField_iWord ..) fun h => did_loadInto h rfl
  | sb => exact did_checkStore h (opField_iWord ..) fun ha h => did_storeTo (ev := s.events) h rfl ha
  | sh => exact did_checkStore h (opField_iWord ..) fun ha h => did_storeTo (ev := s.events) h rfl ha
  | swl => exact did_checkStore h (opField_iWord ..) fun ha h => did_storeTo (ev := s.events) h rfl ((ksegFault_wordBase ..).trans ha)
  | sw => exact did_checkStore h (opField_iWord ..) fun ha h => did_storeTo (ev := s.events) h rfl ha
  | swr => exact did_checkStore h (opField_iWord ..) fun ha h => did_storeTo (ev := s.events) h rfl ha
  | lwc0 => exact did_requireCop h (opField_iWord ..) fun _ h => nomatch h
  | lwc1 => exact did_requireCop h (opField_iWord ..) fun _ h => nomatch h
  | lwc2 => exact did_lwc2 h
  | lwc3 => exact did_requireCop h (opField_iWord ..) fun _ h => nomatch h
  | swc0 => exact did_requireCop h (opField_iWord ..) fun _ h => nomatch h
  | swc1 => exact did_requireCop h (opField_iWord ..) fun _ h => nomatch h
  | swc2 => exact did_requireCop h (opField_iWord ..) fun _ h => did_checkStore h (opField_iWord ..) fun ha h => did_storeTo h rfl ha
  | swc3 => exact did_requireCop h (opField_iWord ..) fun _ h => nomatch h
  | mfc0 => exact did_mfc0 h
  | cfc0 => exact did_requireCop h (opField_rWord ..) fun _ h => did_raise h (by decide) (opField_rWord ..)
  | mtc0 => exact did_requireCop h (opField_rWord ..) fun hu h => by cases h; exact .movedToCop0 _ _ hu rfl
  | ctc0 => exact did_requireCop h (opField_rWord ..) fun _ h => did_raise h (by decide) (opField_rWord ..)
  | bc0f => exact did_requireCop h (opField_iWord ..) fun _ h => did_branch h rfl rfl
  | bc0t => exact did_requireCop h (opField_iWord ..) fun _ h => did_branch h rfl rfl
  | mfc2 => exact did_requireCop h (opField_rWord ..) fun _ h => by cases h; exact .loaded _ _ _ rfl
  | cfc2 => exact did_requireCop h (opField_rWord ..) fun _ h => by cases h; exact .loaded _ _ _ rfl
  | mtc2 => exact did_requireCop h (opField_rWord ..) fun _ h => by cases h; exact .asked _ rfl
  | ctc2 => exact did_requireCop h (opField_rWord ..) fun _ h => by cases h; exact .asked _ rfl
  | bc2f => exact did_requireCop h (opField_iWord ..) fun _ h => did_branch h rfl rfl
  | bc2t => exact did_requireCop h (opField_iWord ..) fun _ h => did_branch h rfl rfl
  | cop2 => exact did_requireCop h (opField_cofunWord ..) fun _ h => by cases h; exact .asked _ rfl
  | reservedSpecial01 => exact did_raise h (by decide) (opField_rWord ..)
  | reservedSpecial05 => exact did_raise h (by decide) (opField_rWord ..)
  | reservedSpecial0a => exact did_raise h (by decide) (opField_rWord ..)
  | reservedSpecial0b => exact did_raise h (by decide) (opField_rWord ..)
  | reservedSpecial0e => exact did_raise h (by decide) (opField_rWord ..)
  | reservedSpecial0f => exact did_raise h (by decide) (opField_rWord ..)
  | reservedSpecial14 => exact did_raise h (by decide) (opField_rWord ..)
  | reservedSpecial15 => exact did_raise h (by decide) (opField_rWord ..)
  | reservedSpecial16 => exact did_raise h (by decide) (opField_rWord ..)
  | reservedSpecial17 => exact did_raise h (by decide) (opField_rWord ..)
  | reservedSpecial1c => exact did_raise h (by decide) (opField_rWord ..)
  | reservedSpecial1d => exact did_raise h (by decide) (opField_rWord ..)
  | reservedSpecial1e => exact did_raise h (by decide) (opField_rWord ..)
  | reservedSpecial1f => exact did_raise h (by decide) (opField_rWord ..)
  | reservedSpecial28 => exact did_raise h (by decide) (opField_rWord ..)
  | reservedSpecial29 => exact did_raise h (by decide) (opField_rWord ..)
  | reservedSpecial2c => exact did_raise h (by decide) (opField_rWord ..)
  | reservedSpecial2d => exact did_raise h (by decide) (opField_rWord ..)
  | reservedSpecial2e => exact did_raise h (by decide) (opField_rWord ..)
  | reservedSpecial2f => exact did_raise h (by decide) (opField_rWord ..)
  | reservedSpecial30 => exact did_raise h (by decide) (opField_rWord ..)
  | reservedSpecial31 => exact did_raise h (by decide) (opField_rWord ..)
  | reservedSpecial32 => exact did_raise h (by decide) (opField_rWord ..)
  | reservedSpecial33 => exact did_raise h (by decide) (opField_rWord ..)
  | reservedSpecial34 => exact did_raise h (by decide) (opField_rWord ..)
  | reservedSpecial35 => exact did_raise h (by decide) (opField_rWord ..)
  | reservedSpecial36 => exact did_raise h (by decide) (opField_rWord ..)
  | reservedSpecial37 => exact did_raise h (by decide) (opField_rWord ..)
  | reservedSpecial38 => exact did_raise h (by decide) (opField_rWord ..)
  | reservedSpecial39 => exact did_raise h (by decide) (opField_rWord ..)
  | reservedSpecial3a => exact did_raise h (by decide) (opField_rWord ..)
  | reservedSpecial3b => exact did_raise h (by decide) (opField_rWord ..)
  | reservedSpecial3c => exact did_raise h (by decide) (opField_rWord ..)
  | reservedSpecial3d => exact did_raise h (by decide) (opField_rWord ..)
  | reservedSpecial3e => exact did_raise h (by decide) (opField_rWord ..)
  | reservedSpecial3f => exact did_raise h (by decide) (opField_rWord ..)
  | reservedOp14 => exact did_raise h (by decide) (by simp [encode])
  | reservedOp15 => exact did_raise h (by decide) (by simp [encode])
  | reservedOp16 => exact did_raise h (by decide) (by simp [encode])
  | reservedOp17 => exact did_raise h (by decide) (by simp [encode])
  | reservedOp18 => exact did_raise h (by decide) (by simp [encode])
  | reservedOp19 => exact did_raise h (by decide) (by simp [encode])
  | reservedOp1a => exact did_raise h (by decide) (by simp [encode])
  | reservedOp1b => exact did_raise h (by decide) (by simp [encode])
  | reservedOp1c => exact did_raise h (by decide) (by simp [encode])
  | reservedOp1d => exact did_raise h (by decide) (by simp [encode])
  | reservedOp1e => exact did_raise h (by decide) (by simp [encode])
  | reservedOp1f => exact did_raise h (by decide) (by simp [encode])
  | reservedOp27 => exact did_raise h (by decide) (by simp [encode])
  | reservedOp2c => exact did_raise h (by decide) (by simp [encode])
  | reservedOp2d => exact did_raise h (by decide) (by simp [encode])
  | reservedOp2f => exact did_raise h (by decide) (by simp [encode])
  | reservedOp34 => exact did_raise h (by decide) (by simp [encode])
  | reservedOp35 => exact did_raise h (by decide) (by simp [encode])
  | reservedOp36 => exact did_raise h (by decide) (by simp [encode])
  | reservedOp37 => exact did_raise h (by decide) (by simp [encode])
  | reservedOp3c => exact did_raise h (by decide) (by simp [encode])
  | reservedOp3d => exact did_raise h (by decide) (by simp [encode])
  | reservedOp3e => exact did_raise h (by decide) (by simp [encode])
  | reservedOp3f => exact did_raise h (by decide) (by simp [encode])
  | cop0NopRs01 => exact did_requireCop h (opField_rWord ..) fun _ h => did_noOperation h rfl
  | cop0NopRs03 => exact did_requireCop h (opField_rWord ..) fun _ h => did_noOperation h rfl
  | cop0NopRs05 => exact did_requireCop h (opField_rWord ..) fun _ h => did_noOperation h rfl
  | cop0NopRs07 => exact did_requireCop h (opField_rWord ..) fun _ h => did_noOperation h rfl
  | cop0NopRs09 => exact did_requireCop h (opField_rWord ..) fun _ h => did_noOperation h rfl
  | cop0NopRs10 => exact did_requireCop h (opField_rWord ..) fun _ h => did_noOperation h rfl
  | cop0NopRs11 => exact did_requireCop h (opField_rWord ..) fun _ h => did_noOperation h rfl
  | cop0NopRs12 => exact did_requireCop h (opField_rWord ..) fun _ h => did_noOperation h rfl
  | cop0NopRs13 => exact did_requireCop h (opField_rWord ..) fun _ h => did_noOperation h rfl
  | cop0NopRs14 => exact did_requireCop h (opField_rWord ..) fun _ h => did_noOperation h rfl
  | cop0NopRs15 => exact did_requireCop h (opField_rWord ..) fun _ h => did_noOperation h rfl
  | cop0CoNop00 => exact did_requireCop h (opField_rWord ..) fun _ h => did_noOperation h rfl
  | tlbr => exact did_requireCop h (opField_rWord ..) fun _ h => did_raise h (by decide) (opField_rWord ..)
  | tlbwi => exact did_requireCop h (opField_rWord ..) fun _ h => did_raise h (by decide) (opField_rWord ..)
  | cop0CoNop03 => exact did_requireCop h (opField_rWord ..) fun _ h => did_noOperation h rfl
  | cop0CoNop04 => exact did_requireCop h (opField_rWord ..) fun _ h => did_noOperation h rfl
  | cop0CoNop05 => exact did_requireCop h (opField_rWord ..) fun _ h => did_noOperation h rfl
  | tlbwr => exact did_requireCop h (opField_rWord ..) fun _ h => did_raise h (by decide) (opField_rWord ..)
  | cop0CoNop07 => exact did_requireCop h (opField_rWord ..) fun _ h => did_noOperation h rfl
  | tlbp => exact did_requireCop h (opField_rWord ..) fun _ h => did_raise h (by decide) (opField_rWord ..)
  | cop0CoNop09 => exact did_requireCop h (opField_rWord ..) fun _ h => did_noOperation h rfl
  | cop0CoNop0a => exact did_requireCop h (opField_rWord ..) fun _ h => did_noOperation h rfl
  | cop0CoNop0b => exact did_requireCop h (opField_rWord ..) fun _ h => did_noOperation h rfl
  | cop0CoNop0c => exact did_requireCop h (opField_rWord ..) fun _ h => did_noOperation h rfl
  | cop0CoNop0d => exact did_requireCop h (opField_rWord ..) fun _ h => did_noOperation h rfl
  | cop0CoNop0e => exact did_requireCop h (opField_rWord ..) fun _ h => did_noOperation h rfl
  | cop0CoNop0f => exact did_requireCop h (opField_rWord ..) fun _ h => did_noOperation h rfl
  | rfe => exact did_requireCop h (opField_rWord ..) fun hu h => by cases h; exact .returned hu rfl
  | cop0CoNop11 => exact did_requireCop h (opField_rWord ..) fun _ h => did_noOperation h rfl
  | cop0CoNop12 => exact did_requireCop h (opField_rWord ..) fun _ h => did_noOperation h rfl
  | cop0CoNop13 => exact did_requireCop h (opField_rWord ..) fun _ h => did_noOperation h rfl
  | cop0CoNop14 => exact did_requireCop h (opField_rWord ..) fun _ h => did_noOperation h rfl
  | cop0CoNop15 => exact did_requireCop h (opField_rWord ..) fun _ h => did_noOperation h rfl
  | cop0CoNop16 => exact did_requireCop h (opField_rWord ..) fun _ h => did_noOperation h rfl
  | cop0CoNop17 => exact did_requireCop h (opField_rWord ..) fun _ h => did_noOperation h rfl
  | cop0CoNop18 => exact did_requireCop h (opField_rWord ..) fun _ h => did_noOperation h rfl
  | cop0CoNop19 => exact did_requireCop h (opField_rWord ..) fun _ h => did_noOperation h rfl
  | cop0CoNop1a => exact did_requireCop h (opField_rWord ..) fun _ h => did_noOperation h rfl
  | cop0CoNop1b => exact did_requireCop h (opField_rWord ..) fun _ h => did_noOperation h rfl
  | cop0CoNop1c => exact did_requireCop h (opField_rWord ..) fun _ h => did_noOperation h rfl
  | cop0CoNop1d => exact did_requireCop h (opField_rWord ..) fun _ h => did_noOperation h rfl
  | cop0CoNop1e => exact did_requireCop h (opField_rWord ..) fun _ h => did_noOperation h rfl
  | cop0CoNop1f => exact did_requireCop h (opField_rWord ..) fun _ h => did_noOperation h rfl
  | cop0CoNop20 => exact did_requireCop h (opField_rWord ..) fun _ h => did_noOperation h rfl
  | cop0CoNop21 => exact did_requireCop h (opField_rWord ..) fun _ h => did_noOperation h rfl
  | cop0CoNop22 => exact did_requireCop h (opField_rWord ..) fun _ h => did_noOperation h rfl
  | cop0CoNop23 => exact did_requireCop h (opField_rWord ..) fun _ h => did_noOperation h rfl
  | cop0CoNop24 => exact did_requireCop h (opField_rWord ..) fun _ h => did_noOperation h rfl
  | cop0CoNop25 => exact did_requireCop h (opField_rWord ..) fun _ h => did_noOperation h rfl
  | cop0CoNop26 => exact did_requireCop h (opField_rWord ..) fun _ h => did_noOperation h rfl
  | cop0CoNop27 => exact did_requireCop h (opField_rWord ..) fun _ h => did_noOperation h rfl
  | cop0CoNop28 => exact did_requireCop h (opField_rWord ..) fun _ h => did_noOperation h rfl
  | cop0CoNop29 => exact did_requireCop h (opField_rWord ..) fun _ h => did_noOperation h rfl
  | cop0CoNop2a => exact did_requireCop h (opField_rWord ..) fun _ h => did_noOperation h rfl
  | cop0CoNop2b => exact did_requireCop h (opField_rWord ..) fun _ h => did_noOperation h rfl
  | cop0CoNop2c => exact did_requireCop h (opField_rWord ..) fun _ h => did_noOperation h rfl
  | cop0CoNop2d => exact did_requireCop h (opField_rWord ..) fun _ h => did_noOperation h rfl
  | cop0CoNop2e => exact did_requireCop h (opField_rWord ..) fun _ h => did_noOperation h rfl
  | cop0CoNop2f => exact did_requireCop h (opField_rWord ..) fun _ h => did_noOperation h rfl
  | cop0CoNop30 => exact did_requireCop h (opField_rWord ..) fun _ h => did_noOperation h rfl
  | cop0CoNop31 => exact did_requireCop h (opField_rWord ..) fun _ h => did_noOperation h rfl
  | cop0CoNop32 => exact did_requireCop h (opField_rWord ..) fun _ h => did_noOperation h rfl
  | cop0CoNop33 => exact did_requireCop h (opField_rWord ..) fun _ h => did_noOperation h rfl
  | cop0CoNop34 => exact did_requireCop h (opField_rWord ..) fun _ h => did_noOperation h rfl
  | cop0CoNop35 => exact did_requireCop h (opField_rWord ..) fun _ h => did_noOperation h rfl
  | cop0CoNop36 => exact did_requireCop h (opField_rWord ..) fun _ h => did_noOperation h rfl
  | cop0CoNop37 => exact did_requireCop h (opField_rWord ..) fun _ h => did_noOperation h rfl
  | cop0CoNop38 => exact did_requireCop h (opField_rWord ..) fun _ h => did_noOperation h rfl
  | cop0CoNop39 => exact did_requireCop h (opField_rWord ..) fun _ h => did_noOperation h rfl
  | cop0CoNop3a => exact did_requireCop h (opField_rWord ..) fun _ h => did_noOperation h rfl
  | cop0CoNop3b => exact did_requireCop h (opField_rWord ..) fun _ h => did_noOperation h rfl
  | cop0CoNop3c => exact did_requireCop h (opField_rWord ..) fun _ h => did_noOperation h rfl
  | cop0CoNop3d => exact did_requireCop h (opField_rWord ..) fun _ h => did_noOperation h rfl
  | cop0CoNop3e => exact did_requireCop h (opField_rWord ..) fun _ h => did_noOperation h rfl
  | cop0CoNop3f => exact did_requireCop h (opField_rWord ..) fun _ h => did_noOperation h rfl
  | cop2NopRs01 => exact did_requireCop h (opField_rWord ..) fun _ h => did_noOperation h rfl
  | cop2NopRs03 => exact did_requireCop h (opField_rWord ..) fun _ h => did_noOperation h rfl
  | cop2NopRs05 => exact did_requireCop h (opField_rWord ..) fun _ h => did_noOperation h rfl
  | cop2NopRs07 => exact did_requireCop h (opField_rWord ..) fun _ h => did_noOperation h rfl
  | cop2NopRs09 => exact did_requireCop h (opField_rWord ..) fun _ h => did_noOperation h rfl
  | cop2NopRs10 => exact did_requireCop h (opField_rWord ..) fun _ h => did_noOperation h rfl
  | cop2NopRs11 => exact did_requireCop h (opField_rWord ..) fun _ h => did_noOperation h rfl
  | cop2NopRs12 => exact did_requireCop h (opField_rWord ..) fun _ h => did_noOperation h rfl
  | cop2NopRs13 => exact did_requireCop h (opField_rWord ..) fun _ h => did_noOperation h rfl
  | cop2NopRs14 => exact did_requireCop h (opField_rWord ..) fun _ h => did_noOperation h rfl
  | cop2NopRs15 => exact did_requireCop h (opField_rWord ..) fun _ h => did_noOperation h rfl

end Sys2Proof.Machine
end

