-- ==== Sys2Proof/Laws/PerInstr.lean ====
section
/-!
SUPPORT. What holds of each instruction as syntax, one lemma per constructor.
-/

namespace Sys2Proof.Laws.EncodeMatchesRow

/-- The word of an instruction lies in the instruction's own row of the opcode table. -/
def Statement (i : Instr) : Prop := encode i &&& (rowOf i).mask = (rowOf i).pattern

theorem sll (rd : RegNum) (rt : RegNum) (sa : BitVec 5) : Statement (.sll rd rt sa) :=
  (rWord_and_fc00003f ..).trans rfl

theorem srl (rd : RegNum) (rt : RegNum) (sa : BitVec 5) : Statement (.srl rd rt sa) :=
  (rWord_and_fc00003f ..).trans rfl

theorem sra (rd : RegNum) (rt : RegNum) (sa : BitVec 5) : Statement (.sra rd rt sa) :=
  (rWord_and_fc00003f ..).trans rfl

theorem sllv (rd : RegNum) (rt : RegNum) (rs : RegNum) : Statement (.sllv rd rt rs) :=
  (rWord_and_fc00003f ..).trans rfl

theorem srlv (rd : RegNum) (rt : RegNum) (rs : RegNum) : Statement (.srlv rd rt rs) :=
  (rWord_and_fc00003f ..).trans rfl

theorem srav (rd : RegNum) (rt : RegNum) (rs : RegNum) : Statement (.srav rd rt rs) :=
  (rWord_and_fc00003f ..).trans rfl

theorem jr (rs : RegNum) : Statement (.jr rs) :=
  (rWord_and_fc00003f ..).trans rfl

theorem jalr (rd : RegNum) (rs : RegNum) : Statement (.jalr rd rs) :=
  (rWord_and_fc00003f ..).trans rfl

theorem syscall (code : BitVec 20) : Statement (.syscall code) :=
  (codeWord_and_fc00003f ..).trans rfl

theorem brk (code : BitVec 20) : Statement (.brk code) :=
  (codeWord_and_fc00003f ..).trans rfl

theorem mfhi (rd : RegNum) : Statement (.mfhi rd) :=
  (rWord_and_fc00003f ..).trans rfl

theorem mthi (rs : RegNum) : Statement (.mthi rs) :=
  (rWord_and_fc00003f ..).trans rfl

theorem mflo (rd : RegNum) : Statement (.mflo rd) :=
  (rWord_and_fc00003f ..).trans rfl

theorem mtlo (rs : RegNum) : Statement (.mtlo rs) :=
  (rWord_and_fc00003f ..).trans rfl

theorem mult (rs : RegNum) (rt : RegNum) : Statement (.mult rs rt) :=
  (rWord_and_fc00003f ..).trans rfl

theorem multu (rs : RegNum) (rt : RegNum) : Statement (.multu rs rt) :=
  (rWord_and_fc00003f ..).trans rfl

theorem div (rs : RegNum) (rt : RegNum) : Statement (.div rs rt) :=
  (rWord_and_fc00003f ..).trans rfl

theorem divu (rs : RegNum) (rt : RegNum) : Statement (.divu rs rt) :=
  (rWord_and_fc00003f ..).trans rfl

theorem add (rd : RegNum) (rs : RegNum) (rt : RegNum) : Statement (.add rd rs rt) :=
  (rWord_and_fc00003f ..).trans rfl

theorem addu (rd : RegNum) (rs : RegNum) (rt : RegNum) : Statement (.addu rd rs rt) :=
  (rWord_and_fc00003f ..).trans rfl

theorem sub (rd : RegNum) (rs : RegNum) (rt : RegNum) : Statement (.sub rd rs rt) :=
  (rWord_and_fc00003f ..).trans rfl

theorem subu (rd : RegNum) (rs : RegNum) (rt : RegNum) : Statement (.subu rd rs rt) :=
  (rWord_and_fc00003f ..).trans rfl

theorem and (rd : RegNum) (rs : RegNum) (rt : RegNum) : Statement (.and rd rs rt) :=
  (rWord_and_fc00003f ..).trans rfl

theorem or (rd : RegNum) (rs : RegNum) (rt : RegNum) : Statement (.or rd rs rt) :=
  (rWord_and_fc00003f ..).trans rfl

theorem xor (rd : RegNum) (rs : RegNum) (rt : RegNum) : Statement (.xor rd rs rt) :=
  (rWord_and_fc00003f ..).trans rfl

theorem nor (rd : RegNum) (rs : RegNum) (rt : RegNum) : Statement (.nor rd rs rt) :=
  (rWord_and_fc00003f ..).trans rfl

theorem slt (rd : RegNum) (rs : RegNum) (rt : RegNum) : Statement (.slt rd rs rt) :=
  (rWord_and_fc00003f ..).trans rfl

theorem sltu (rd : RegNum) (rs : RegNum) (rt : RegNum) : Statement (.sltu rd rs rt) :=
  (rWord_and_fc00003f ..).trans rfl

theorem bltz (rs : RegNum) (imm : BitVec 16) : Statement (.bltz rs imm) :=
  (iWord_and_fc1f0000 ..).trans rfl

theorem bgez (rs : RegNum) (imm : BitVec 16) : Statement (.bgez rs imm) :=
  (iWord_and_fc1f0000 ..).trans rfl

theorem bltzAliasRt2 (rs : RegNum) (imm : BitVec 16) : Statement (.bltzAliasRt2 rs imm) :=
  (iWord_and_fc1f0000 ..).trans rfl

theorem bgezAliasRt3 (rs : RegNum) (imm : BitVec 16) : Statement (.bgezAliasRt3 rs imm) :=
  (iWord_and_fc1f0000 ..).trans rfl

theorem bltzAliasRt4 (rs : RegNum) (imm : BitVec 16) : Statement (.bltzAliasRt4 rs imm) :=
  (iWord_and_fc1f0000 ..).trans rfl

theorem bgezAliasRt5 (rs : RegNum) (imm : BitVec 16) : Statement (.bgezAliasRt5 rs imm) :=
  (iWord_and_fc1f0000 ..).trans rfl

theorem bltzAliasRt6 (rs : RegNum) (imm : BitVec 16) : Statement (.bltzAliasRt6 rs imm) :=
  (iWord_and_fc1f0000 ..).trans rfl

theorem bgezAliasRt7 (rs : RegNum) (imm : BitVec 16) : Statement (.bgezAliasRt7 rs imm) :=
  (iWord_and_fc1f0000 ..).trans rfl

theorem bltzAliasRt8 (rs : RegNum) (imm : BitVec 16) : Statement (.bltzAliasRt8 rs imm) :=
  (iWord_and_fc1f0000 ..).trans rfl

theorem bgezAliasRt9 (rs : RegNum) (imm : BitVec 16) : Statement (.bgezAliasRt9 rs imm) :=
  (iWord_and_fc1f0000 ..).trans rfl

theorem bltzAliasRt10 (rs : RegNum) (imm : BitVec 16) : Statement (.bltzAliasRt10 rs imm) :=
  (iWord_and_fc1f0000 ..).trans rfl

theorem bgezAliasRt11 (rs : RegNum) (imm : BitVec 16) : Statement (.bgezAliasRt11 rs imm) :=
  (iWord_and_fc1f0000 ..).trans rfl

theorem bltzAliasRt12 (rs : RegNum) (imm : BitVec 16) : Statement (.bltzAliasRt12 rs imm) :=
  (iWord_and_fc1f0000 ..).trans rfl

theorem bgezAliasRt13 (rs : RegNum) (imm : BitVec 16) : Statement (.bgezAliasRt13 rs imm) :=
  (iWord_and_fc1f0000 ..).trans rfl

theorem bltzAliasRt14 (rs : RegNum) (imm : BitVec 16) : Statement (.bltzAliasRt14 rs imm) :=
  (iWord_and_fc1f0000 ..).trans rfl

theorem bgezAliasRt15 (rs : RegNum) (imm : BitVec 16) : Statement (.bgezAliasRt15 rs imm) :=
  (iWord_and_fc1f0000 ..).trans rfl

theorem bltzal (rs : RegNum) (imm : BitVec 16) : Statement (.bltzal rs imm) :=
  (iWord_and_fc1f0000 ..).trans rfl

theorem bgezal (rs : RegNum) (imm : BitVec 16) : Statement (.bgezal rs imm) :=
  (iWord_and_fc1f0000 ..).trans rfl

theorem bltzAliasRt18 (rs : RegNum) (imm : BitVec 16) : Statement (.bltzAliasRt18 rs imm) :=
  (iWord_and_fc1f0000 ..).trans rfl

theorem bgezAliasRt19 (rs : RegNum) (imm : BitVec 16) : Statement (.bgezAliasRt19 rs imm) :=
  (iWord_and_fc1f0000 ..).trans rfl

theorem bltzAliasRt20 (rs : RegNum) (imm : BitVec 16) : Statement (.bltzAliasRt20 rs imm) :=
  (iWord_and_fc1f0000 ..).trans rfl

theorem bgezAliasRt21 (rs : RegNum) (imm : BitVec 16) : Statement (.bgezAliasRt21 rs imm) :=
  (iWord_and_fc1f0000 ..).trans rfl

theorem bltzAliasRt22 (rs : RegNum) (imm : BitVec 16) : Statement (.bltzAliasRt22 rs imm) :=
  (iWord_and_fc1f0000 ..).trans rfl

theorem bgezAliasRt23 (rs : RegNum) (imm : BitVec 16) : Statement (.bgezAliasRt23 rs imm) :=
  (iWord_and_fc1f0000 ..).trans rfl

theorem bltzAliasRt24 (rs : RegNum) (imm : BitVec 16) : Statement (.bltzAliasRt24 rs imm) :=
  (iWord_and_fc1f0000 ..).trans rfl

theorem bgezAliasRt25 (rs : RegNum) (imm : BitVec 16) : Statement (.bgezAliasRt25 rs imm) :=
  (iWord_and_fc1f0000 ..).trans rfl

theorem bltzAliasRt26 (rs : RegNum) (imm : BitVec 16) : Statement (.bltzAliasRt26 rs imm) :=
  (iWord_and_fc1f0000 ..).trans rfl

theorem bgezAliasRt27 (rs : RegNum) (imm : BitVec 16) : Statement (.bgezAliasRt27 rs imm) :=
  (iWord_and_fc1f0000 ..).trans rfl

theorem bltzAliasRt28 (rs : RegNum) (imm : BitVec 16) : Statement (.bltzAliasRt28 rs imm) :=
  (iWord_and_fc1f0000 ..).trans rfl

theorem bgezAliasRt29 (rs : RegNum) (imm : BitVec 16) : Statement (.bgezAliasRt29 rs imm) :=
  (iWord_and_fc1f0000 ..).trans rfl

theorem bltzAliasRt30 (rs : RegNum) (imm : BitVec 16) : Statement (.bltzAliasRt30 rs imm) :=
  (iWord_and_fc1f0000 ..).trans rfl

theorem bgezAliasRt31 (rs : RegNum) (imm : BitVec 16) : Statement (.bgezAliasRt31 rs imm) :=
  (iWord_and_fc1f0000 ..).trans rfl

theorem j (target : BitVec 26) : Statement (.j target) :=
  (jWord_and_fc000000 ..).trans rfl

theorem jal (target : BitVec 26) : Statement (.jal target) :=
  (jWord_and_fc000000 ..).trans rfl

theorem beq (rs : RegNum) (rt : RegNum) (imm : BitVec 16) : Statement (.beq rs rt imm) :=
  (iWord_and_fc000000 ..).trans rfl

theorem bne (rs : RegNum) (rt : RegNum) (imm : BitVec 16) : Statement (.bne rs rt imm) :=
  (iWord_and_fc000000 ..).trans rfl

theorem blez (rs : RegNum) (imm : BitVec 16) : Statement (.blez rs imm) :=
  (iWord_and_fc000000 ..).trans rfl

theorem bgtz (rs : RegNum) (imm : BitVec 16) : Statement (.bgtz rs imm) :=
  (iWord_and_fc000000 ..).trans rfl

theorem addi (rt : RegNum) (rs : RegNum) (imm : BitVec 16) : Statement (.addi rt rs imm) :=
  (iWord_and_fc000000 ..).trans rfl

theorem addiu (rt : RegNum) (rs : RegNum) (imm : BitVec 16) : Statement (.addiu rt rs imm) :=
  (iWord_and_fc000000 ..).trans rfl

theorem slti (rt : RegNum) (rs : RegNum) (imm : BitVec 16) : Statement (.slti rt rs imm) :=
  (iWord_and_fc000000 ..).trans rfl

theorem sltiu (rt : RegNum) (rs : RegNum) (imm : BitVec 16) : Statement (.sltiu rt rs imm) :=
  (iWord_and_fc000000 ..).trans rfl

theorem andi (rt : RegNum) (rs : RegNum) (imm : BitVec 16) : Statement (.andi rt rs imm) :=
  (iWord_and_fc000000 ..).trans rfl

theorem ori (rt : RegNum) (rs : RegNum) (imm : BitVec 16) : Statement (.ori rt rs imm) :=
  (iWord_and_fc000000 ..).trans rfl

theorem xori (rt : RegNum) (rs : RegNum) (imm : BitVec 16) : Statement (.xori rt rs imm) :=
  (iWord_and_fc000000 ..).trans rfl

theorem lui (rt : RegNum) (imm : BitVec 16) : Statement (.lui rt imm) :=
  (iWord_and_fc000000 ..).trans rfl

theorem cop1 (cofun : BitVec 26) : Statement (.cop1 cofun) :=
  (jWord_and_fc000000 ..).trans rfl

theorem cop3 (cofun : BitVec 26) : Statement (.cop3 cofun) :=
  (jWord_and_fc000000 ..).trans rfl

theorem lb (rt : RegNum) (rs : RegNum) (imm : BitVec 16) : Statement (.lb rt rs imm) :=
  (iWord_and_fc000000 ..).trans rfl

theorem lh (rt : RegNum) (rs : RegNum) (imm : BitVec 16) : Statement (.lh rt rs imm) :=
  (iWord_and_fc000000 ..).trans rfl

theorem lwl (rt : RegNum) (rs : RegNum) (imm : BitVec 16) : Statement (.lwl rt rs imm) :=
  (iWord_and_fc000000 ..).trans rfl

theorem lw (rt : RegNum) (rs : RegNum) (imm : BitVec 16) : Statement (.lw rt rs imm) :=
  (iWord_and_fc000000 ..).trans rfl

theorem lbu (rt : RegNum) (rs : RegNum) (imm : BitVec 16) : Statement (.lbu rt rs imm) :=
  (iWord_and_fc000000 ..).trans rfl

theorem lhu (rt : RegNum) (rs : RegNum) (imm : BitVec 16) : Statement (.lhu rt rs imm) :=
  (iWord_and_fc000000 ..).trans rfl

theorem lwr (rt : RegNum) (rs : RegNum) (imm : BitVec 16) : Statement (.lwr rt rs imm) :=
  (iWord_and_fc000000 ..).trans rfl

theorem sb (rt : RegNum) (rs : RegNum) (imm : BitVec 16) : Statement (.sb rt rs imm) :=
  (iWord_and_fc000000 ..).trans rfl

theorem sh (rt : RegNum) (rs : RegNum) (imm : BitVec 16) : Statement (.sh rt rs imm) :=
  (iWord_and_fc000000 ..).trans rfl

theorem swl (rt : RegNum) (rs : RegNum) (imm : BitVec 16) : Statement (.swl rt rs imm) :=
  (iWord_and_fc000000 ..).trans rfl

theorem sw (rt : RegNum) (rs : RegNum) (imm : BitVec 16) : Statement (.sw rt rs imm) :=
  (iWord_and_fc000000 ..).trans rfl

theorem swr (rt : RegNum) (rs : RegNum) (imm : BitVec 16) : Statement (.swr rt rs imm) :=
  (iWord_and_fc000000 ..).trans rfl

theorem lwc0 (rt : RegNum) (rs : RegNum) (imm : BitVec 16) : Statement (.lwc0 rt rs imm) :=
  (iWord_and_fc000000 ..).trans rfl

theorem lwc1 (rt : RegNum) (rs : RegNum) (imm : BitVec 16) : Statement (.lwc1 rt rs imm) :=
  (iWord_and_fc000000 ..).trans rfl

theorem lwc2 (rt : RegNum) (rs : RegNum) (imm : BitVec 16) : Statement (.lwc2 rt rs imm) :=
  (iWord_and_fc000000 ..).trans rfl

theorem lwc3 (rt : RegNum) (rs : RegNum) (imm : BitVec 16) : Statement (.lwc3 rt rs imm) :=
  (iWord_and_fc000000 ..).trans rfl

theorem swc0 (rt : RegNum) (rs : RegNum) (imm : BitVec 16) : Statement (.swc0 rt rs imm) :=
  (iWord_and_fc000000 ..).trans rfl

theorem swc1 (rt : RegNum) (rs : RegNum) (imm : BitVec 16) : Statement (.swc1 rt rs imm) :=
  (iWord_and_fc000000 ..).trans rfl

theorem swc2 (rt : RegNum) (rs : RegNum) (imm : BitVec 16) : Statement (.swc2 rt rs imm) :=
  (iWord_and_fc000000 ..).trans rfl

theorem swc3 (rt : RegNum) (rs : RegNum) (imm : BitVec 16) : Statement (.swc3 rt rs imm) :=
  (iWord_and_fc000000 ..).trans rfl

theorem mfc0 (rt : RegNum) (rd : RegNum) : Statement (.mfc0 rt rd) :=
  (rWord_and_ffe00000 ..).trans rfl

theorem cfc0 (rt : RegNum) (rd : RegNum) : Statement (.cfc0 rt rd) :=
  (rWord_and_ffe00000 ..).trans rfl

theorem mtc0 (rt : RegNum) (rd : RegNum) : Statement (.mtc0 rt rd) :=
  (rWord_and_ffe00000 ..).trans rfl

theorem ctc0 (rt : RegNum) (rd : RegNum) : Statement (.ctc0 rt rd) :=
  (rWord_and_ffe00000 ..).trans rfl

theorem bc0f (imm : BitVec 16) : Statement (.bc0f imm) :=
  (iWord_and_ffe10000 ..).trans rfl

theorem bc0t (imm : BitVec 16) : Statement (.bc0t imm) :=
  (iWord_and_ffe10000 ..).trans rfl

theorem mfc2 (rt : RegNum) (rd : RegNum) : Statement (.mfc2 rt rd) :=
  (rWord_and_ffe00000 ..).trans rfl

theorem cfc2 (rt : RegNum) (rd : RegNum) : Statement (.cfc2 rt rd) :=
  (rWord_and_ffe00000 ..).trans rfl

theorem mtc2 (rt : RegNum) (rd : RegNum) : Statement (.mtc2 rt rd) :=
  (rWord_and_ffe00000 ..).trans rfl

theorem ctc2 (rt : RegNum) (rd : RegNum) : Statement (.ctc2 rt rd) :=
  (rWord_and_ffe00000 ..).trans rfl

theorem bc2f (imm : BitVec 16) : Statement (.bc2f imm) :=
  (iWord_and_ffe10000 ..).trans rfl

theorem bc2t (imm : BitVec 16) : Statement (.bc2t imm) :=
  (iWord_and_ffe10000 ..).trans rfl

theorem cop2 (cofun : BitVec 25) : Statement (.cop2 cofun) :=
  (cofunWord_and_fe000000 ..).trans rfl

theorem reservedSpecial01 : Statement .reservedSpecial01 := by unfold Statement; decide

theorem reservedSpecial05 : Statement .reservedSpecial05 := by unfold Statement; decide

theorem reservedSpecial0a : Statement .reservedSpecial0a := by unfold Statement; decide

theorem reservedSpecial0b : Statement .reservedSpecial0b := by unfold Statement; decide

theorem reservedSpecial0e : Statement .reservedSpecial0e := by unfold Statement; decide

theorem reservedSpecial0f : Statement .reservedSpecial0f := by unfold Statement; decide

theorem reservedSpecial14 : Statement .reservedSpecial14 := by unfold Statement; decide

theorem reservedSpecial15 : Statement .reservedSpecial15 := by unfold Statement; decide

theorem reservedSpecial16 : Statement .reservedSpecial16 := by unfold Statement; decide

theorem reservedSpecial17 : Statement .reservedSpecial17 := by unfold Statement; decide

theorem reservedSpecial1c : Statement .reservedSpecial1c := by unfold Statement; decide

theorem reservedSpecial1d : Statement .reservedSpecial1d := by unfold Statement; decide

theorem reservedSpecial1e : Statement .reservedSpecial1e := by unfold Statement; decide

theorem reservedSpecial1f : Statement .reservedSpecial1f := by unfold Statement; decide

theorem reservedSpecial28 : Statement .reservedSpecial28 := by unfold Statement; decide

theorem reservedSpecial29 : Statement .reservedSpecial29 := by unfold Statement; decide

theorem reservedSpecial2c : Statement .reservedSpecial2c := by unfold Statement; decide

theorem reservedSpecial2d : Statement .reservedSpecial2d := by unfold Statement; decide

theorem reservedSpecial2e : Statement .reservedSpecial2e := by unfold Statement; decide

theorem reservedSpecial2f : Statement .reservedSpecial2f := by unfold Statement; decide

theorem reservedSpecial30 : Statement .reservedSpecial30 := by unfold Statement; decide

theorem reservedSpecial31 : Statement .reservedSpecial31 := by unfold Statement; decide

theorem reservedSpecial32 : Statement .reservedSpecial32 := by unfold Statement; decide

theorem reservedSpecial33 : Statement .reservedSpecial33 := by unfold Statement; decide

theorem reservedSpecial34 : Statement .reservedSpecial34 := by unfold Statement; decide

theorem reservedSpecial35 : Statement .reservedSpecial35 := by unfold Statement; decide

theorem reservedSpecial36 : Statement .reservedSpecial36 := by unfold Statement; decide

theorem reservedSpecial37 : Statement .reservedSpecial37 := by unfold Statement; decide

theorem reservedSpecial38 : Statement .reservedSpecial38 := by unfold Statement; decide

theorem reservedSpecial39 : Statement .reservedSpecial39 := by unfold Statement; decide

theorem reservedSpecial3a : Statement .reservedSpecial3a := by unfold Statement; decide

theorem reservedSpecial3b : Statement .reservedSpecial3b := by unfold Statement; decide

theorem reservedSpecial3c : Statement .reservedSpecial3c := by unfold Statement; decide

theorem reservedSpecial3d : Statement .reservedSpecial3d := by unfold Statement; decide

theorem reservedSpecial3e : Statement .reservedSpecial3e := by unfold Statement; decide

theorem reservedSpecial3f : Statement .reservedSpecial3f := by unfold Statement; decide

theorem reservedOp14 : Statement .reservedOp14 := by unfold Statement; decide

theorem reservedOp15 : Statement .reservedOp15 := by unfold Statement; decide

theorem reservedOp16 : Statement .reservedOp16 := by unfold Statement; decide

theorem reservedOp17 : Statement .reservedOp17 := by unfold Statement; decide

theorem reservedOp18 : Statement .reservedOp18 := by unfold Statement; decide

theorem reservedOp19 : Statement .reservedOp19 := by unfold Statement; decide

theorem reservedOp1a : Statement .reservedOp1a := by unfold Statement; decide

theorem reservedOp1b : Statement .reservedOp1b := by unfold Statement; decide

theorem reservedOp1c : Statement .reservedOp1c := by unfold Statement; decide

theorem reservedOp1d : Statement .reservedOp1d := by unfold Statement; decide

theorem reservedOp1e : Statement .reservedOp1e := by unfold Statement; decide

theorem reservedOp1f : Statement .reservedOp1f := by unfold Statement; decide

theorem reservedOp27 : Statement .reservedOp27 := by unfold Statement; decide

theorem reservedOp2c : Statement .reservedOp2c := by unfold Statement; decide

theorem reservedOp2d : Statement .reservedOp2d := by unfold Statement; decide

theorem reservedOp2f : Statement .reservedOp2f := by unfold Statement; decide

theorem reservedOp34 : Statement .reservedOp34 := by unfold Statement; decide

theorem reservedOp35 : Statement .reservedOp35 := by unfold Statement; decide

theorem reservedOp36 : Statement .reservedOp36 := by unfold Statement; decide

theorem reservedOp37 : Statement .reservedOp37 := by unfold Statement; decide

theorem reservedOp3c : Statement .reservedOp3c := by unfold Statement; decide

theorem reservedOp3d : Statement .reservedOp3d := by unfold Statement; decide

theorem reservedOp3e : Statement .reservedOp3e := by unfold Statement; decide

theorem reservedOp3f : Statement .reservedOp3f := by unfold Statement; decide

theorem cop0NopRs01 : Statement .cop0NopRs01 := by unfold Statement; decide

theorem cop0NopRs03 : Statement .cop0NopRs03 := by unfold Statement; decide

theorem cop0NopRs05 : Statement .cop0NopRs05 := by unfold Statement; decide

theorem cop0NopRs07 : Statement .cop0NopRs07 := by unfold Statement; decide

theorem cop0NopRs09 : Statement .cop0NopRs09 := by unfold Statement; decide

theorem cop0NopRs10 : Statement .cop0NopRs10 := by unfold Statement; decide

theorem cop0NopRs11 : Statement .cop0NopRs11 := by unfold Statement; decide

theorem cop0NopRs12 : Statement .cop0NopRs12 := by unfold Statement; decide

theorem cop0NopRs13 : Statement .cop0NopRs13 := by unfold Statement; decide

theorem cop0NopRs14 : Statement .cop0NopRs14 := by unfold Statement; decide

theorem cop0NopRs15 : Statement .cop0NopRs15 := by unfold Statement; decide

theorem cop0CoNop00 : Statement .cop0CoNop00 := by unfold Statement; decide

theorem tlbr : Statement .tlbr := by unfold Statement; decide

theorem tlbwi : Statement .tlbwi := by unfold Statement; decide

theorem cop0CoNop03 : Statement .cop0CoNop03 := by unfold Statement; decide

theorem cop0CoNop04 : Statement .cop0CoNop04 := by unfold Statement; decide

theorem cop0CoNop05 : Statement .cop0CoNop05 := by unfold Statement; decide

theorem tlbwr : Statement .tlbwr := by unfold Statement; decide

theorem cop0CoNop07 : Statement .cop0CoNop07 := by unfold Statement; decide

theorem tlbp : Statement .tlbp := by unfold Statement; decide

theorem cop0CoNop09 : Statement .cop0CoNop09 := by unfold Statement; decide

theorem cop0CoNop0a : Statement .cop0CoNop0a := by unfold Statement; decide

theorem cop0CoNop0b : Statement .cop0CoNop0b := by unfold Statement; decide

theorem cop0CoNop0c : Statement .cop0CoNop0c := by unfold Statement; decide

theorem cop0CoNop0d : Statement .cop0CoNop0d := by unfold Statement; decide

theorem cop0CoNop0e : Statement .cop0CoNop0e := by unfold Statement; decide

theorem cop0CoNop0f : Statement .cop0CoNop0f := by unfold Statement; decide

theorem rfe : Statement .rfe := by unfold Statement; decide

theorem cop0CoNop11 : Statement .cop0CoNop11 := by unfold Statement; decide

theorem cop0CoNop12 : Statement .cop0CoNop12 := by unfold Statement; decide

theorem cop0CoNop13 : Statement .cop0CoNop13 := by unfold Statement; decide

theorem cop0CoNop14 : Statement .cop0CoNop14 := by unfold Statement; decide

theorem cop0CoNop15 : Statement .cop0CoNop15 := by unfold Statement; decide

theorem cop0CoNop16 : Statement .cop0CoNop16 := by unfold Statement; decide

theorem cop0CoNop17 : Statement .cop0CoNop17 := by unfold Statement; decide

theorem cop0CoNop18 : Statement .cop0CoNop18 := by unfold Statement; decide

theorem cop0CoNop19 : Statement .cop0CoNop19 := by unfold Statement; decide

theorem cop0CoNop1a : Statement .cop0CoNop1a := by unfold Statement; decide

theorem cop0CoNop1b : Statement .cop0CoNop1b := by unfold Statement; decide

theorem cop0CoNop1c : Statement .cop0CoNop1c := by unfold Statement; decide

theorem cop0CoNop1d : Statement .cop0CoNop1d := by unfold Statement; decide

theorem cop0CoNop1e : Statement .cop0CoNop1e := by unfold Statement; decide

theorem cop0CoNop1f : Statement .cop0CoNop1f := by unfold Statement; decide

theorem cop0CoNop20 : Statement .cop0CoNop20 := by unfold Statement; decide

theorem cop0CoNop21 : Statement .cop0CoNop21 := by unfold Statement; decide

theorem cop0CoNop22 : Statement .cop0CoNop22 := by unfold Statement; decide

theorem cop0CoNop23 : Statement .cop0CoNop23 := by unfold Statement; decide

theorem cop0CoNop24 : Statement .cop0CoNop24 := by unfold Statement; decide

theorem cop0CoNop25 : Statement .cop0CoNop25 := by unfold Statement; decide

theorem cop0CoNop26 : Statement .cop0CoNop26 := by unfold Statement; decide

theorem cop0CoNop27 : Statement .cop0CoNop27 := by unfold Statement; decide

theorem cop0CoNop28 : Statement .cop0CoNop28 := by unfold Statement; decide

theorem cop0CoNop29 : Statement .cop0CoNop29 := by unfold Statement; decide

theorem cop0CoNop2a : Statement .cop0CoNop2a := by unfold Statement; decide

theorem cop0CoNop2b : Statement .cop0CoNop2b := by unfold Statement; decide

theorem cop0CoNop2c : Statement .cop0CoNop2c := by unfold Statement; decide

theorem cop0CoNop2d : Statement .cop0CoNop2d := by unfold Statement; decide

theorem cop0CoNop2e : Statement .cop0CoNop2e := by unfold Statement; decide

theorem cop0CoNop2f : Statement .cop0CoNop2f := by unfold Statement; decide

theorem cop0CoNop30 : Statement .cop0CoNop30 := by unfold Statement; decide

theorem cop0CoNop31 : Statement .cop0CoNop31 := by unfold Statement; decide

theorem cop0CoNop32 : Statement .cop0CoNop32 := by unfold Statement; decide

theorem cop0CoNop33 : Statement .cop0CoNop33 := by unfold Statement; decide

theorem cop0CoNop34 : Statement .cop0CoNop34 := by unfold Statement; decide

theorem cop0CoNop35 : Statement .cop0CoNop35 := by unfold Statement; decide

theorem cop0CoNop36 : Statement .cop0CoNop36 := by unfold Statement; decide

theorem cop0CoNop37 : Statement .cop0CoNop37 := by unfold Statement; decide

theorem cop0CoNop38 : Statement .cop0CoNop38 := by unfold Statement; decide

theorem cop0CoNop39 : Statement .cop0CoNop39 := by unfold Statement; decide

theorem cop0CoNop3a : Statement .cop0CoNop3a := by unfold Statement; decide

theorem cop0CoNop3b : Statement .cop0CoNop3b := by unfold Statement; decide

theorem cop0CoNop3c : Statement .cop0CoNop3c := by unfold Statement; decide

theorem cop0CoNop3d : Statement .cop0CoNop3d := by unfold Statement; decide

theorem cop0CoNop3e : Statement .cop0CoNop3e := by unfold Statement; decide

theorem cop0CoNop3f : Statement .cop0CoNop3f := by unfold Statement; decide

theorem cop2NopRs01 : Statement .cop2NopRs01 := by unfold Statement; decide

theorem cop2NopRs03 : Statement .cop2NopRs03 := by unfold Statement; decide

theorem cop2NopRs05 : Statement .cop2NopRs05 := by unfold Statement; decide

theorem cop2NopRs07 : Statement .cop2NopRs07 := by unfold Statement; decide

theorem cop2NopRs09 : Statement .cop2NopRs09 := by unfold Statement; decide

theorem cop2NopRs10 : Statement .cop2NopRs10 := by unfold Statement; decide

theorem cop2NopRs11 : Statement .cop2NopRs11 := by unfold Statement; decide

theorem cop2NopRs12 : Statement .cop2NopRs12 := by unfold Statement; decide

theorem cop2NopRs13 : Statement .cop2NopRs13 := by unfold Statement; decide

theorem cop2NopRs14 : Statement .cop2NopRs14 := by unfold Statement; decide

theorem cop2NopRs15 : Statement .cop2NopRs15 := by unfold Statement; decide

end Sys2Proof.Laws.EncodeMatchesRow
end

