-- ==== Sys2Proof/Laws/Ppu.lean ====
section
/-!
SUPPORT. What each operation of the video block can do, said once: the sorting of OAM search, the tile registers, the transitions,
a cycle, and runs of cycles.
-/

namespace Sys2Proof.Machine

/-! ## Sorting -/

theorem mem_insertSprite {a e : SpriteEntry} {l : List SpriteEntry} : a ∈ insertSprite e l ↔ a = e ∨ a ∈ l := by
  induction l with
  | nil => simp [insertSprite]
  | cons f fs ih =>
    rw [insertSprite]
    split
    · simp
    · simp only [List.mem_cons, ih]; exact or_left_comm

theorem mem_sortSprites {a : SpriteEntry} {l : List SpriteEntry} : a ∈ sortSprites l ↔ a ∈ l := by
  induction l with
  | nil => rfl
  | cons e es ih => rw [sortSprites, mem_insertSprite, ih, List.mem_cons]

theorem length_insertSprite (e : SpriteEntry) (l : List SpriteEntry) : (insertSprite e l).length = l.length + 1 := by
  induction l with
  | nil => rfl
  | cons f fs ih => rw [insertSprite]; split <;> simp [ih]

theorem length_sortSprites (l : List SpriteEntry) : (sortSprites l).length = l.length := by
  induction l with
  | nil => rfl
  | cons e es ih => rw [sortSprites, length_insertSprite, ih, List.length_cons]

/-- The list order in words. -/
theorem spriteEntryLe_iff {a b : SpriteEntry} :
    spriteEntryLe a b = true ↔ a.x < b.x ∨ (a.x = b.x ∧ a.priorityId ≤ b.priorityId) := by
  simp [spriteEntryLe]

theorem spriteEntryLe_trans {a b c : SpriteEntry} (h : spriteEntryLe a b = true) (h' : spriteEntryLe b c = true) :
    spriteEntryLe a c = true := by
  rw [spriteEntryLe_iff] at *; omega

theorem spriteEntryLe_total {a b : SpriteEntry} (h : ¬spriteEntryLe a b = true) : spriteEntryLe b a = true := by
  rw [spriteEntryLe_iff] at *; omega

/-- An entry put into a sorted list of entries with other ids leaves it sorted. -/
theorem insertSprite_sorted {e : SpriteEntry} {l : List SpriteEntry}
    (h : l.Pairwise (fun a b => spriteEntryLe a b = true)) :
    (insertSprite e l).Pairwise (fun a b => spriteEntryLe a b = true) := by
  induction l with
  | nil => simp [insertSprite]
  | cons f fs ih =>
    obtain ⟨hf, hs⟩ := List.pairwise_cons.1 h
    rw [insertSprite]
    split
    · rename_i he
      refine List.pairwise_cons.2 ⟨fun b hb => ?_, h⟩
      rcases List.mem_cons.1 hb with rfl | hb
      · exact he
      · exact spriteEntryLe_trans he (hf b hb)
    · rename_i he
      refine List.pairwise_cons.2 ⟨fun b hb => ?_, ih hs⟩
      rcases mem_insertSprite.1 hb with rfl | hb
      · exact spriteEntryLe_total he
      · exact hf b hb

theorem sortSprites_sorted (l : List SpriteEntry) : (sortSprites l).Pairwise (fun a b => spriteEntryLe a b = true) := by
  induction l with
  | nil => exact List.Pairwise.nil
  | cons e es ih => exact insertSprite_sorted ih

/-- Sorting only permutes. -/
theorem insertSprite_perm (e : SpriteEntry) (l : List SpriteEntry) : (insertSprite e l).Perm (e :: l) := by
  induction l with
  | nil => exact List.Perm.refl _
  | cons f fs ih =>
    rw [insertSprite]
    split
    · exact List.Perm.refl _
    · exact (List.Perm.cons f ih).trans (List.Perm.swap e f fs)

theorem sortSprites_perm (l : List SpriteEntry) : (sortSprites l).Perm l := by
  induction l with
  | nil => exact List.Perm.refl _
  | cons e es ih => exact (insertSprite_perm e _).trans (List.Perm.cons e ih)

/-! ## Pixels -/

/-- Loading the tile registers changes no other part of the engine. -/
theorem refillTiles_state (env : PpuEnv) (p : Ppu) :
    refillTiles env p =
      { p with
        tileCur := (refillTiles env p).tileCur
        tileNext := (refillTiles env p).tileNext
        tileLeft := (refillTiles env p).tileLeft
        nextLoaded := (refillTiles env p).nextLoaded
        nextColumn := (refillTiles env p).nextColumn } := by
  simp only [refillTiles, loadNextTile]; split <;> split <;> rfl

/-- A started window's pixel is the tile register's, whatever is written (R353). -/
@[simp] theorem bgPixel_window {env : PpuEnv} {p : Ppu} (h : p.winStarted = true) :
    bgPixel env p = ⟨.window, p.tileCur.palette, nextPixel p.tileCur.pixels⟩ := if_pos h

/-- An enabled background's pixel is the tile register's. -/
@[simp] theorem bgPixel_enabled {env : PpuEnv} {p : Ppu} (h : p.winStarted = false) (he : env.bgEnabled p.writes = true) :
    bgPixel env p = ⟨.bg, p.tileCur.palette, nextPixel p.tileCur.pixels⟩ := by
  simp [bgPixel, h, he]

/-- A disabled background's pixel is the one that stands for it. -/
@[simp] theorem bgPixel_disabled {env : PpuEnv} {p : Ppu} (h : p.winStarted = false) (he : env.bgEnabled p.writes = false) :
    bgPixel env p = ⟨.bg, (env.bgOff p.writes).1, (env.bgOff p.writes).2⟩ := by
  simp [bgPixel, h, he]

/-- A pixel changes the tile registers, the accumulators, the line buffer, the cursor and the window's test at the cursor alone. -/
theorem outputPixel_state (env : PpuEnv) (prio : SpritePriority) (p : Ppu) :
    ∃ cur next left loaded column acc px,
      outputPixel env prio p =
        { p with
          tileCur := cur
          tileNext := next
          tileLeft := left
          nextLoaded := loaded
          nextColumn := column
          sprAcc := acc
          line := p.line ++ [px]
          winTested := false
          xpos := p.xpos + 1 } := by
  rw [outputPixel, refillTiles_state]
  exact ⟨_, _, _, _, _, _, _, rfl⟩

/-! ## Transitions -/

/-- Everything a transition can do. -/
inductive PpuDid (env : PpuEnv) (p : Ppu) : Ppu → Prop
  | pixelTransfer (h : p.mode = .mode2Line0 ∨ p.mode = .mode2LineN) : PpuDid env p (startPixelTransfer env p)
  | prefetched (h : p.mode = .mode3Start) : PpuDid env p (prefetched env p)
  | lineEnded (h : p.mode = .mode3TileFetch) (hx : env.lineWidth ≤ p.xpos) : PpuDid env p (endLine p)
  | windowRequested (h : p.mode = .mode3TileFetch) (hx : p.xpos < env.lineWidth) (hw : windowDue env p = true) :
      PpuDid env p (startWindow env p)
  | spritesReached (h : p.mode = .mode3TileFetch) (hx : p.xpos < env.lineWidth) (hw : windowDue env p = false)
      (hs : spriteDue env p = true) : PpuDid env p (startSprites env p)
  | spritesLoaded (h : p.mode = .mode3LoadSprite) (he : env.spritesEnabled p.writes = true) : PpuDid env p (spritesLoaded p)
  | spritesAbandoned (h : p.mode = .mode3LoadSprite) (he : env.spritesEnabled p.writes = false) :
      PpuDid env p (spritesAbandoned p)
  | windowStarted (h : p.mode = .mode3StartWindow) : PpuDid env p (windowStarted env p)
  | nextLine (h : p.mode = .endOfLine) : PpuDid env p (nextLine env p)
  | nextFrame (h : p.mode = .vblank) : PpuDid env p (nextFrame env p)

theorem ppuTransition_did {env : PpuEnv} {p q : Ppu} (h : ppuTransition env p = some q) : PpuDid env p q := by
  unfold ppuTransition at h
  split at h <;> rename_i hm
  · split at h <;> cases h; exact .pixelTransfer (.inl hm)
  · split at h <;> cases h; exact .pixelTransfer (.inr hm)
  · split at h <;> cases h; exact .prefetched hm
  · split at h
    · rename_i hx; cases h; exact .lineEnded hm hx
    · rename_i hx
      split at h
      · rename_i hw; cases h; exact .windowRequested hm (by omega) hw
      · rename_i hw
        split at h <;> cases h
        rename_i hs
        exact .spritesReached hm (by omega) (by simpa using hw) hs
  · split at h
    · rename_i he; cases h; exact .spritesAbandoned hm (by simpa using he)
    · rename_i he
      split at h <;> cases h
      exact .spritesLoaded hm (by simpa using he)
  · split at h <;> cases h; exact .windowStarted hm
  · split at h <;> cases h; exact .nextLine hm
  · split at h <;> cases h; exact .nextFrame hm

/-- A transition into mode 3 puts the cursor at the left edge; in what else it changes it is the record below. -/
theorem startPixelTransfer_state (env : PpuEnv) (p : Ppu) :
    ∃ cur next left loaded column found acc wait,
      startPixelTransfer env p =
        { p with
          mode := .mode3Start
          xpos := 0
          sprites := found
          sprAcc := acc
          tileCur := cur
          tileNext := next
          tileLeft := left
          nextLoaded := loaded
          nextColumn := column
          winTested := false
          wait := wait } := by
  unfold startPixelTransfer loadNextTile
  simp only
  split
  · exact ⟨_, _, _, _, _, _, _, _, rfl⟩
  · exact ⟨_, _, _, _, _, _, _, _, rfl⟩

/-- A property that every transition keeps, the settling of a cycle keeps. -/
theorem ppuSettle_keeps {env : PpuEnv} {P : Ppu → Prop} (hP : ∀ p q, P p → ppuTransition env p = some q → P q) (fuel : Nat)
    {p : Ppu} (h : P p) : P (ppuSettle env fuel p) := by
  induction fuel generalizing p with
  | zero => exact h
  | succ n ih =>
    rw [ppuSettle]
    split
    · exact h
    · rename_i q hq; exact ih (hP p q h hq)

/-! ## Cycles -/

/-- After its transitions a cycle outputs a pixel in tile-fetch, or counts down a ramp, or does nothing. -/
theorem ppuSpend_cases (env : PpuEnv) (prio : SpritePriority) (p : Ppu) :
    (p.mode = .mode3TileFetch ∧ ppuTransition env p = none ∧ ppuSpend env prio p = outputPixel env prio p) ∨
      ppuSpend env prio p = { p with wait := p.wait - 1 } ∨ ppuSpend env prio p = p := by
  unfold ppuSpend
  split <;> rename_i hm
  · exact .inr (.inr rfl)
  · exact .inr (.inr rfl)
  · exact .inr (.inl rfl)
  · split
    · exact .inr (.inr rfl)
    · rename_i hn; exact .inl ⟨hm, by simpa using hn, rfl⟩
  · exact .inr (.inl rfl)
  · exact .inr (.inl rfl)
  · exact .inr (.inr rfl)
  · exact .inr (.inr rfl)

/-- Bringing `end_of_run` up to date changes nothing else. -/
theorem refreshRun_state (env : PpuEnv) (p : Ppu) : refreshRun env p = { p with endOfRun := (refreshRun env p).endOfRun } := by
  unfold refreshRun; split <;> rfl

/-- A cycle is its transitions, what `ppuSpend` does, and the cycle counters. -/
theorem ppuCycle_state (env : PpuEnv) (prio : SpritePriority) (p : Ppu) :
    ∃ run,
      ppuCycle env prio p =
        { ppuSpend env prio (ppuSettle env 16 p) with endOfRun := run, now := p.now + 1, budget := p.budget - 1 } := by
  rw [ppuCycle, refreshRun_state]; exact ⟨_, rfl⟩

/-- A register write changes the register values, the end of the run and the memory of a disabling write alone. -/
theorem ppuApplyWrite_state (env : PpuEnv) (reg value : Nat) (p : Ppu) :
    ∃ run,
      ppuApplyWrite env reg value p =
        { p with
          writes := (reg, value) :: p.writes
          windowOffAt :=
            if env.windowEnabled p.writes && !env.windowEnabled ((reg, value) :: p.writes) then some p.now else p.windowOffAt
          endOfRun := run } := by
  rw [ppuApplyWrite, refreshRun_state]; exact ⟨_, rfl⟩

theorem ppuRun_succ (env : PpuEnv) (prio : SpritePriority) (n : Nat) (p : Ppu) :
    ppuRun env prio (n + 1) p = ppuCycle env prio (ppuRun env prio n p) := by
  induction n generalizing p with
  | zero => rfl
  | succ n ih => exact ih (ppuCycle env prio p)

theorem ppuRun_add (env : PpuEnv) (prio : SpritePriority) (m n : Nat) (p : Ppu) :
    ppuRun env prio (m + n) p = ppuRun env prio n (ppuRun env prio m p) := by
  induction m generalizing p with
  | zero => rw [Nat.zero_add]; rfl
  | succ m ih => rw [Nat.add_right_comm]; exact ih _

/-- `n` cycles advance the current cycle by `n`. -/
theorem ppuRun_now (env : PpuEnv) (prio : SpritePriority) (n : Nat) (p : Ppu) : (ppuRun env prio n p).now = p.now + n := by
  induction n with
  | zero => rfl
  | succ n ih => rw [ppuRun_succ]; show (ppuRun env prio n p).now + 1 = _; omega

/-! ## The budget of a call, which nothing the engine does depends on -/

theorem ppuTransition_budget (env : PpuEnv) (p : Ppu) (b : Nat) :
    ppuTransition env { p with budget := b } = (ppuTransition env p).map (fun q => { q with budget := b }) := by
  have h1 : startPixelTransfer env { p with budget := b } = { startPixelTransfer env p with budget := b } := by
    simp only [startPixelTransfer, loadNextTile]; split <;> rfl
  have hw : windowDue env { p with budget := b } = windowDue env p := rfl
  have hs : spriteDue env { p with budget := b } = spriteDue env p := rfl
  unfold ppuTransition
  simp only [h1, hw, hs]
  cases p.mode <;> simp only [apply_ite (Option.map _), Option.map_some, Option.map_none] <;> rfl

theorem ppuSettle_budget (env : PpuEnv) (n : Nat) (p : Ppu) (b : Nat) :
    ppuSettle env n { p with budget := b } = { ppuSettle env n p with budget := b } := by
  induction n generalizing p with
  | zero => rfl
  | succ n ih =>
    simp only [ppuSettle, ppuTransition_budget]
    cases ppuTransition env p with
    | none => rfl
    | some q => exact ih q

theorem ppuSpend_budget (env : PpuEnv) (prio : SpritePriority) (p : Ppu) (b : Nat) :
    ppuSpend env prio { p with budget := b } = { ppuSpend env prio p with budget := b } := by
  unfold ppuSpend
  simp only [ppuTransition_budget, Option.isSome_map]
  split <;> try rfl
  split
  · rfl
  · simp only [outputPixel, refillTiles, loadNextTile]
    split <;> split <;> rfl

theorem ppuCycle_budget (env : PpuEnv) (prio : SpritePriority) (p : Ppu) (b : Nat) :
    ppuCycle env prio { p with budget := b } = { ppuCycle env prio p with budget := b - 1 } := by
  simp only [ppuCycle, ppuSettle_budget, ppuSpend_budget]
  simp only [refreshRun]; split <;> rfl

end Sys2Proof.Machine
end

