-- ==== Sys2Proof/Laws/Step.lean ====
section
/-!
SUPPORT. What a step can do to the state that no instruction touches, and when an interrupt is pending.
-/

namespace Sys2Proof.Machine

open Sys2Proof.Claims

/-- An interrupt is pending as R45's formula says, bit by bit. -/
theorem intPending_iff (s : State) : s.intPending = true ↔ interrupted s := by
  have key : ∀ a b : BitVec 8, (a &&& b != 0) = true ↔ ∃ k < 8, a.getLsbD k ∧ b.getLsbD k := by
    intro a b
    constructor
    · intro h
      by_contra hn
      push Not at hn
      refine (bne_iff_ne.1 h) (BitVec.eq_of_getLsbD_eq fun i hi => ?_)
      have := hn i hi
      rw [BitVec.getLsbD_and, show (0 : BitVec 8).getLsbD i = false from BitVec.getLsbD_zero]
      cases ha : a.getLsbD i <;> cases hb : b.getLsbD i <;> simp_all
    · rintro ⟨k, hk, h1, h2⟩
      refine bne_iff_ne.2 fun h => ?_
      have := congrArg (fun x => x.getLsbD k) h
      simp [h1, h2] at this
  simp only [State.intPending, Bool.and_eq_true, key, interrupted, State.iec, State.im, State.ip, BitVec.getLsbD_extractLsb']
  refine and_congr_right fun _ => ⟨fun ⟨k, h, h1, h2⟩ => ⟨k, h, by simpa [h] using h1, by simpa [h] using h2⟩, fun ⟨k, h, h1, h2⟩ => ⟨k, h, by simpa [h] using h1, by simpa [h] using h2⟩⟩

/-- The state an instruction never touches is unchanged. -/
structure Keeps (s t : State) : Prop where
  draws : t.draws = s.draws
  params : t.params = s.params
  prid : t.prid = s.prid
  ppu : t.ppu = s.ppu
  timestamp : t.timestamp = s.timestamp

theorem exec_keeps {i : Instr} {s t : State} (h : exec i s = .next t) : Keeps s t := by
  rcases exec_did h with ⟨e, _⟩ | ⟨r, v⟩ | ⟨hi, lo⟩ | _ | ⟨c, a⟩ | ⟨r, c, a⟩ | ⟨r, v, ev⟩ | ⟨a, n, v, ev, s', _, _, hw⟩ | ev | ⟨n, v⟩ | _
  · exact ⟨rfl, rfl, rfl, rfl, rfl⟩
  · constructor <;> simp
  · constructor <;> simp
  · constructor <;> simp
  · constructor <;> simp
  · constructor <;> simp [link]
  · constructor <;> simp
  · rcases memWrite_cases hw with h | h | h | h <;> subst_vars <;> constructor <;> simp
  · constructor <;> simp
  · constructor <;> simp
  · constructor <;> simp

/-- A fetch that gives a word changes the instruction cache alone. -/
theorem iFetch_state {s s' : State} {w : Word} (h : iFetch s = .ok (w, s')) : ∃ c, s' = { s with ic := c } := by
  unfold iFetch at h
  dsimp only at h
  split_ifs at h
  · cases h; exact ⟨_, rfl⟩
  · split at h <;> cases h; exact ⟨_, rfl⟩
  · split at h <;> cases h; exact ⟨_, rfl⟩

theorem fetchAndDispatch_keeps {s t : State} (h : fetchAndDispatch s = .next t) : Keeps s t := by
  unfold fetchAndDispatch at h
  split at h
  · cases h; exact ⟨rfl, rfl, rfl, rfl, rfl⟩
  · split at h
    · cases h
    · rename_i w s' hf
      obtain ⟨c, rfl⟩ := iFetch_state hf
      unfold dispatch takeInterrupt at h
      split_ifs at h
      · cases h; exact ⟨rfl, rfl, rfl, rfl, rfl⟩
      · obtain ⟨a, b, c, d, e⟩ := exec_keeps h
        exact ⟨a, b, c, d, e⟩

/-- A step that answers a next state is a fetch and a dispatch, and then the clock. -/
theorem step_next {s t : State} (h : step s = .next t) : ∃ u, fetchAndDispatch s.zeroR0 = .next u ∧ t = u.tick := by
  change tickOut (fetchAndDispatch s.zeroR0) = .next t at h
  cases hf : fetchAndDispatch s.zeroR0 with
  | next u => rw [hf] at h; cases h; exact ⟨u, rfl, rfl⟩
  | fault r => rw [hf] at h; cases h
  | refused r => rw [hf] at h; cases h

end Sys2Proof.Machine
end

