-- ==== Sys2Proof/Tests/Slice0.lean ====
section
/-!
SUPPORT. Tests on fixed values: the well-formedness checks, every row's decoding, the vectors of spec/95_test_vectors.md that one
step or one call can show, and for each statement that has hypotheses a state and operands that meet them.
-/

namespace Sys2Proof.Tests

open Sys2Proof.Machine Sys2Proof.Claims

/-! ## Small states -/

/-- The start state of 95_test_vectors.md: pc = 0x80001000, SR = 0, everything else as after reset. -/
def start : State := { State.reset with pc := 0x80001000, npc := 0x80001004, sr := 0 }

/-- A state with the registers listed set to values. -/
def regs (l : List (RegNum × Word)) (s : State) : State := { s with regs := l.foldl (fun v p => writeRegs v p.1 p.2) s.regs }

/-- A state with the words listed stored at physical addresses. -/
def words (l : List (Word × Word)) (s : State) : State := { s with mem := l.foldl (fun m p => m.writeLE p.1 4 p.2) s.mem }

/-- One step with the instruction word `w` at pc, seen through `f`. -/
def stepped {α : Type} (w : Word) (s : State) (f : State → α) : Option α :=
  match step (words [(phys s.pc, w)] s) with
  | .next t => some (f t)
  | _ => none

/-- The reason one step with the instruction word `w` at pc is refused for. -/
def refusal (w : Word) (s : State) : Option Refusal :=
  match step (words [(phys s.pc, w)] s) with
  | .refused r => some r
  | _ => none

/-- What a trap leaves: pc, EPC and Cause. -/
def trapped (t : State) : Word × Word × Word := (t.pc, t.epc, t.cause)

/-- The bytes of 95_test_vectors.md's loads and stores. -/
def bytes : State → State := words [(0x100, 0x44332211), (0x104, 0x88776655), (0x110, 0x00349280)]

/-- User mode at 0x00001000. -/
def user : State := { start with pc := 0x00001000, npc := 0x00001004, sr := 0x00000002 }

/-! ## Well-formedness: each check refuses an ill-formed term -/

theorem test_slotWf_refuses_branch_in_slot : slotWf (.beq 1 2 4) (.jr 31) = false := by decide
theorem test_slotWf_accepts_nop_in_slot : slotWf (.beq 1 2 4) (.sll 0 0 0) = true := by decide
theorem test_codeWf_refuses_branch_in_slot : codeWf [.addu 3 1 2, .jal 0x800, .bc0f 1, .sll 0 0 0] = false := by decide
theorem test_branchLabelFits_refuses_far_label : branchLabelFits 0x80001000 0x80021004 = false := by decide
theorem test_branchLabelFits_accepts_farthest_label : branchLabelFits 0x80001000 0x80021000 = true := by decide
theorem test_branchLabelFits_refuses_odd_label : branchLabelFits 0x80001000 0x80001006 = false := by decide
theorem test_jumpLabelFits_refuses_other_region : jumpLabelFits 0x80001000 0x90000000 = false := by decide
theorem test_jumpLabelFits_refuses_odd_label : jumpLabelFits 0x80001000 0x80002002 = false := by decide

/-! ## Decoding: one word of every row, its fields written out from 30_encoding.md -/

theorem test_decode_special :
    ∀ x ∈ ([
      (0b000000_00000_00010_00011_11110_000000#32, .sll 3 2 30),
      (0b000000_00000_00010_00011_11110_000010#32, .srl 3 2 30),
      (0b000000_00000_00010_00011_11110_000011#32, .sra 3 2 30),
      (0b000000_00001_00010_00011_00000_000100#32, .sllv 3 2 1),
      (0b000000_00001_00010_00011_00000_000110#32, .srlv 3 2 1),
      (0b000000_00001_00010_00011_00000_000111#32, .srav 3 2 1),
      (0b000000_00001_00000_00000_00000_001000#32, .jr 1),
      (0b000000_00001_00000_00011_00000_001001#32, .jalr 3 1),
      (0b000000_10101011110011011110_001100#32, .syscall 0xabcde),
      (0b000000_10101011110011011110_001101#32, .brk 0xabcde),
      (0b000000_00000_00000_00011_00000_010000#32, .mfhi 3),
      (0b000000_00001_00000_00000_00000_010001#32, .mthi 1),
      (0b000000_00000_00000_00011_00000_010010#32, .mflo 3),
      (0b000000_00001_00000_00000_00000_010011#32, .mtlo 1),
      (0b000000_00001_00010_00000_00000_011000#32, .mult 1 2),
      (0b000000_00001_00010_00000_00000_011001#32, .multu 1 2),
      (0b000000_00001_00010_00000_00000_011010#32, .div 1 2),
      (0b000000_00001_00010_00000_00000_011011#32, .divu 1 2),
      (0b000000_00001_00010_00011_00000_100000#32, .add 3 1 2),
      (0b000000_00001_00010_00011_00000_100001#32, .addu 3 1 2),
      (0b000000_00001_00010_00011_00000_100010#32, .sub 3 1 2),
      (0b000000_00001_00010_00011_00000_100011#32, .subu 3 1 2),
      (0b000000_00001_00010_00011_00000_100100#32, .and 3 1 2),
      (0b000000_00001_00010_00011_00000_100101#32, .or 3 1 2),
      (0b000000_00001_00010_00011_00000_100110#32, .xor 3 1 2),
      (0b000000_00001_00010_00011_00000_100111#32, .nor 3 1 2),
      (0b000000_00001_00010_00011_00000_101010#32, .slt 3 1 2),
      (0b000000_00001_00010_00011_00000_101011#32, .sltu 3 1 2)] : List (Word × Instr)), decode x.1 = x.2 := by
  decide

theorem test_decode_special_reserved :
    ∀ x ∈ ([
      (0b000000_00000_00000_00000_00000_000001#32, .reservedSpecial01),
      (0b000000_00000_00000_00000_00000_000101#32, .reservedSpecial05),
      (0b000000_00000_00000_00000_00000_001010#32, .reservedSpecial0a),
      (0b000000_00000_00000_00000_00000_001011#32, .reservedSpecial0b),
      (0b000000_00000_00000_00000_00000_001110#32, .reservedSpecial0e),
      (0b000000_00000_00000_00000_00000_001111#32, .reservedSpecial0f),
      (0b000000_00000_00000_00000_00000_010100#32, .reservedSpecial14),
      (0b000000_00000_00000_00000_00000_010101#32, .reservedSpecial15),
      (0b000000_00000_00000_00000_00000_010110#32, .reservedSpecial16),
      (0b000000_00000_00000_00000_00000_010111#32, .reservedSpecial17),
      (0b000000_00000_00000_00000_00000_011100#32, .reservedSpecial1c),
      (0b000000_00000_00000_00000_00000_011101#32, .reservedSpecial1d),
      (0b000000_00000_00000_00000_00000_011110#32, .reservedSpecial1e),
      (0b000000_00000_00000_00000_00000_011111#32, .reservedSpecial1f),
      (0b000000_00000_00000_00000_00000_101000#32, .reservedSpecial28),
      (0b000000_00000_00000_00000_00000_101001#32, .reservedSpecial29),
      (0b000000_00000_00000_00000_00000_101100#32, .reservedSpecial2c),
      (0b000000_00000_00000_00000_00000_101101#32, .reservedSpecial2d),
      (0b000000_00000_00000_00000_00000_101110#32, .reservedSpecial2e),
      (0b000000_00000_00000_00000_00000_101111#32, .reservedSpecial2f),
      (0b000000_00000_00000_00000_00000_110000#32, .reservedSpecial30),
      (0b000000_00000_00000_00000_00000_110001#32, .reservedSpecial31),
      (0b000000_00000_00000_00000_00000_110010#32, .reservedSpecial32),
      (0b000000_00000_00000_00000_00000_110011#32, .reservedSpecial33),
      (0b000000_00000_00000_00000_00000_110100#32, .reservedSpecial34),
      (0b000000_00000_00000_00000_00000_110101#32, .reservedSpecial35),
      (0b000000_00000_00000_00000_00000_110110#32, .reservedSpecial36),
      (0b000000_00000_00000_00000_00000_110111#32, .reservedSpecial37),
      (0b000000_00000_00000_00000_00000_111000#32, .reservedSpecial38),
      (0b000000_00000_00000_00000_00000_111001#32, .reservedSpecial39),
      (0b000000_00000_00000_00000_00000_111010#32, .reservedSpecial3a),
      (0b000000_00000_00000_00000_00000_111011#32, .reservedSpecial3b),
      (0b000000_00000_00000_00000_00000_111100#32, .reservedSpecial3c),
      (0b000000_00000_00000_00000_00000_111101#32, .reservedSpecial3d),
      (0b000000_00000_00000_00000_00000_111110#32, .reservedSpecial3e),
      (0b000000_00000_00000_00000_00000_111111#32, .reservedSpecial3f)] : List (Word × Instr)), decode x.1 = x.2 := by
  decide

theorem test_decode_regimm :
    ∀ x ∈ ([
      (0b000001_00001_00000_1000000000000101#32, .bltz 1 0x8005),
      (0b000001_00001_00001_1000000000000101#32, .bgez 1 0x8005),
      (0b000001_00001_00010_1000000000000101#32, .bltzAliasRt2 1 0x8005),
      (0b000001_00001_00011_1000000000000101#32, .bgezAliasRt3 1 0x8005),
      (0b000001_00001_00100_1000000000000101#32, .bltzAliasRt4 1 0x8005),
      (0b000001_00001_00101_1000000000000101#32, .bgezAliasRt5 1 0x8005),
      (0b000001_00001_00110_1000000000000101#32, .bltzAliasRt6 1 0x8005),
      (0b000001_00001_00111_1000000000000101#32, .bgezAliasRt7 1 0x8005),
      (0b000001_00001_01000_1000000000000101#32, .bltzAliasRt8 1 0x8005),
      (0b000001_00001_01001_1000000000000101#32, .bgezAliasRt9 1 0x8005),
      (0b000001_00001_01010_1000000000000101#32, .bltzAliasRt10 1 0x8005),
      (0b000001_00001_01011_1000000000000101#32, .bgezAliasRt11 1 0x8005),
      (0b000001_00001_01100_1000000000000101#32, .bltzAliasRt12 1 0x8005),
      (0b000001_00001_01101_1000000000000101#32, .bgezAliasRt13 1 0x8005),
      (0b000001_00001_01110_1000000000000101#32, .bltzAliasRt14 1 0x8005),
      (0b000001_00001_01111_1000000000000101#32, .bgezAliasRt15 1 0x8005),
      (0b000001_00001_10000_1000000000000101#32, .bltzal 1 0x8005),
      (0b000001_00001_10001_1000000000000101#32, .bgezal 1 0x8005),
      (0b000001_00001_10010_1000000000000101#32, .bltzAliasRt18 1 0x8005),
      (0b000001_00001_10011_1000000000000101#32, .bgezAliasRt19 1 0x8005),
      (0b000001_00001_10100_1000000000000101#32, .bltzAliasRt20 1 0x8005),
      (0b000001_00001_10101_1000000000000101#32, .bgezAliasRt21 1 0x8005),
      (0b000001_00001_10110_1000000000000101#32, .bltzAliasRt22 1 0x8005),
      (0b000001_00001_10111_1000000000000101#32, .bgezAliasRt23 1 0x8005),
      (0b000001_00001_11000_1000000000000101#32, .bltzAliasRt24 1 0x8005),
      (0b000001_00001_11001_1000000000000101#32, .bgezAliasRt25 1 0x8005),
      (0b000001_00001_11010_1000000000000101#32, .bltzAliasRt26 1 0x8005),
      (0b000001_00001_11011_1000000000000101#32, .bgezAliasRt27 1 0x8005),
      (0b000001_00001_11100_1000000000000101#32, .bltzAliasRt28 1 0x8005),
      (0b000001_00001_11101_1000000000000101#32, .bgezAliasRt29 1 0x8005),
      (0b000001_00001_11110_1000000000000101#32, .bltzAliasRt30 1 0x8005),
      (0b000001_00001_11111_1000000000000101#32, .bgezAliasRt31 1 0x8005)] : List (Word × Instr)), decode x.1 = x.2 := by
  decide

theorem test_decode_branch :
    ∀ x ∈ ([
      (0b000010_10000000000000000000000001#32, .j 0x2000001),
      (0b000011_10000000000000000000000001#32, .jal 0x2000001),
      (0b000100_00001_00010_1000000000000101#32, .beq 1 2 0x8005),
      (0b000101_00001_00010_1000000000000101#32, .bne 1 2 0x8005),
      (0b000110_00001_00000_1000000000000101#32, .blez 1 0x8005),
      (0b000111_00001_00000_1000000000000101#32, .bgtz 1 0x8005)] : List (Word × Instr)), decode x.1 = x.2 := by
  decide

theorem test_decode_immediate :
    ∀ x ∈ ([
      (0b001000_00001_00010_1000000000000101#32, .addi 2 1 0x8005),
      (0b001001_00001_00010_1000000000000101#32, .addiu 2 1 0x8005),
      (0b001010_00001_00010_1000000000000101#32, .slti 2 1 0x8005),
      (0b001011_00001_00010_1000000000000101#32, .sltiu 2 1 0x8005),
      (0b001100_00001_00010_1000000000000101#32, .andi 2 1 0x8005),
      (0b001101_00001_00010_1000000000000101#32, .ori 2 1 0x8005),
      (0b001110_00001_00010_1000000000000101#32, .xori 2 1 0x8005),
      (0b001111_00000_00010_1000000000000101#32, .lui 2 0x8005)] : List (Word × Instr)), decode x.1 = x.2 := by
  decide

theorem test_decode_other_coprocessors :
    ∀ x ∈ ([
      (0b010001_00000110000000000000000001#32, .cop1 0x180001),
      (0b010011_00000110000000000000000001#32, .cop3 0x180001),
      (0b110000_00001_00010_1000000000000101#32, .lwc0 2 1 0x8005),
      (0b110001_00001_00010_1000000000000101#32, .lwc1 2 1 0x8005),
      (0b110010_00001_00010_1000000000000101#32, .lwc2 2 1 0x8005),
      (0b110011_00001_00010_1000000000000101#32, .lwc3 2 1 0x8005),
      (0b111000_00001_00010_1000000000000101#32, .swc0 2 1 0x8005),
      (0b111001_00001_00010_1000000000000101#32, .swc1 2 1 0x8005),
      (0b111010_00001_00010_1000000000000101#32, .swc2 2 1 0x8005),
      (0b111011_00001_00010_1000000000000101#32, .swc3 2 1 0x8005)] : List (Word × Instr)), decode x.1 = x.2 := by
  decide

theorem test_decode_reserved_opcodes :
    ∀ x ∈ ([
      (0b010100_00000000000000000000000000#32, .reservedOp14),
      (0b010101_00000000000000000000000000#32, .reservedOp15),
      (0b010110_00000000000000000000000000#32, .reservedOp16),
      (0b010111_00000000000000000000000000#32, .reservedOp17),
      (0b011000_00000000000000000000000000#32, .reservedOp18),
      (0b011001_00000000000000000000000000#32, .reservedOp19),
      (0b011010_00000000000000000000000000#32, .reservedOp1a),
      (0b011011_00000000000000000000000000#32, .reservedOp1b),
      (0b011100_00000000000000000000000000#32, .reservedOp1c),
      (0b011101_00000000000000000000000000#32, .reservedOp1d),
      (0b011110_00000000000000000000000000#32, .reservedOp1e),
      (0b011111_00000000000000000000000000#32, .reservedOp1f),
      (0b100111_00000000000000000000000000#32, .reservedOp27),
      (0b101100_00000000000000000000000000#32, .reservedOp2c),
      (0b101101_00000000000000000000000000#32, .reservedOp2d),
      (0b101111_00000000000000000000000000#32, .reservedOp2f),
      (0b110100_00000000000000000000000000#32, .reservedOp34),
      (0b110101_00000000000000000000000000#32, .reservedOp35),
      (0b110110_00000000000000000000000000#32, .reservedOp36),
      (0b110111_00000000000000000000000000#32, .reservedOp37),
      (0b111100_00000000000000000000000000#32, .reservedOp3c),
      (0b111101_00000000000000000000000000#32, .reservedOp3d),
      (0b111110_00000000000000000000000000#32, .reservedOp3e),
      (0b111111_00000000000000000000000000#32, .reservedOp3f)] : List (Word × Instr)), decode x.1 = x.2 := by
  decide

theorem test_decode_load_store :
    ∀ x ∈ ([
      (0b100000_00001_00010_1000000000000101#32, .lb 2 1 0x8005),
      (0b100001_00001_00010_1000000000000101#32, .lh 2 1 0x8005),
      (0b100010_00001_00010_1000000000000101#32, .lwl 2 1 0x8005),
      (0b100011_00001_00010_1000000000000101#32, .lw 2 1 0x8005),
      (0b100100_00001_00010_1000000000000101#32, .lbu 2 1 0x8005),
      (0b100101_00001_00010_1000000000000101#32, .lhu 2 1 0x8005),
      (0b100110_00001_00010_1000000000000101#32, .lwr 2 1 0x8005),
      (0b101000_00001_00010_1000000000000101#32, .sb 2 1 0x8005),
      (0b101001_00001_00010_1000000000000101#32, .sh 2 1 0x8005),
      (0b101010_00001_00010_1000000000000101#32, .swl 2 1 0x8005),
      (0b101011_00001_00010_1000000000000101#32, .sw 2 1 0x8005),
      (0b101110_00001_00010_1000000000000101#32, .swr 2 1 0x8005)] : List (Word × Instr)), decode x.1 = x.2 := by
  decide

theorem test_decode_cop0 :
    ∀ x ∈ ([
      (0b010000_00000_00010_00011_00000000000#32, .mfc0 2 3),
      (0b010000_00010_00010_00011_00000000000#32, .cfc0 2 3),
      (0b010000_00100_00010_00011_00000000000#32, .mtc0 2 3),
      (0b010000_00110_00010_00011_00000000000#32, .ctc0 2 3),
      (0b010000_01000_00000_1000000000000101#32, .bc0f 0x8005),
      (0b010000_01000_00001_1000000000000101#32, .bc0t 0x8005),
      (0b010000_1_0000000000000000000_000001#32, .tlbr),
      (0b010000_1_0000000000000000000_000010#32, .tlbwi),
      (0b010000_1_0000000000000000000_000110#32, .tlbwr),
      (0b010000_1_0000000000000000000_001000#32, .tlbp),
      (0b010000_1_0000000000000000000_010000#32, .rfe)] : List (Word × Instr)), decode x.1 = x.2 := by
  decide

theorem test_decode_cop0_no_operations_a :
    ∀ x ∈ ([
      (0b010000_00001_00000_00000_00000000000#32, .cop0NopRs01),
      (0b010000_00011_00000_00000_00000000000#32, .cop0NopRs03),
      (0b010000_00101_00000_00000_00000000000#32, .cop0NopRs05),
      (0b010000_00111_00000_00000_00000000000#32, .cop0NopRs07),
      (0b010000_01001_00000_00000_00000000000#32, .cop0NopRs09),
      (0b010000_01010_00000_00000_00000000000#32, .cop0NopRs10),
      (0b010000_01011_00000_00000_00000000000#32, .cop0NopRs11),
      (0b010000_01100_00000_00000_00000000000#32, .cop0NopRs12),
      (0b010000_01101_00000_00000_00000000000#32, .cop0NopRs13),
      (0b010000_01110_00000_00000_00000000000#32, .cop0NopRs14),
      (0b010000_01111_00000_00000_00000000000#32, .cop0NopRs15),
      (0b010000_1_0000000000000000000_000000#32, .cop0CoNop00),
      (0b010000_1_0000000000000000000_000011#32, .cop0CoNop03),
      (0b010000_1_0000000000000000000_000100#32, .cop0CoNop04),
      (0b010000_1_0000000000000000000_000101#32, .cop0CoNop05),
      (0b010000_1_0000000000000000000_000111#32, .cop0CoNop07),
      (0b010000_1_0000000000000000000_001001#32, .cop0CoNop09),
      (0b010000_1_0000000000000000000_001010#32, .cop0CoNop0a),
      (0b010000_1_0000000000000000000_001011#32, .cop0CoNop0b),
      (0b010000_1_0000000000000000000_001100#32, .cop0CoNop0c),
      (0b010000_1_0000000000000000000_001101#32, .cop0CoNop0d),
      (0b010000_1_0000000000000000000_001110#32, .cop0CoNop0e),
      (0b010000_1_0000000000000000000_001111#32, .cop0CoNop0f),
      (0b010000_1_0000000000000000000_010001#32, .cop0CoNop11),
      (0b010000_1_0000000000000000000_010010#32, .cop0CoNop12),
      (0b010000_1_0000000000000000000_010011#32, .cop0CoNop13),
      (0b010000_1_0000000000000000000_010100#32, .cop0CoNop14),
      (0b010000_1_0000000000000000000_010101#32, .cop0CoNop15),
      (0b010000_1_0000000000000000000_010110#32, .cop0CoNop16),
      (0b010000_1_0000000000000000000_010111#32, .cop0CoNop17),
      (0b010000_1_0000000000000000000_011000#32, .cop0CoNop18),
      (0b010000_1_0000000000000000000_011001#32, .cop0CoNop19),
      (0b010000_1_0000000000000000000_011010#32, .cop0CoNop1a),
      (0b010000_1_0000000000000000000_011011#32, .cop0CoNop1b),
      (0b010000_1_0000000000000000000_011100#32, .cop0CoNop1c),
      (0b010000_1_0000000000000000000_011101#32, .cop0CoNop1d),
      (0b010000_1_0000000000000000000_011110#32, .cop0CoNop1e),
      (0b010000_1_0000000000000000000_011111#32, .cop0CoNop1f),
      (0b010000_1_0000000000000000000_100000#32, .cop0CoNop20),
      (0b010000_1_0000000000000000000_100001#32, .cop0CoNop21)] : List (Word × Instr)), decode x.1 = x.2 := by
  decide

theorem test_decode_cop0_no_operations_b :
    ∀ x ∈ ([
      (0b010000_1_0000000000000000000_100010#32, .cop0CoNop22),
      (0b010000_1_0000000000000000000_100011#32, .cop0CoNop23),
      (0b010000_1_0000000000000000000_100100#32, .cop0CoNop24),
      (0b010000_1_0000000000000000000_100101#32, .cop0CoNop25),
      (0b010000_1_0000000000000000000_100110#32, .cop0CoNop26),
      (0b010000_1_0000000000000000000_100111#32, .cop0CoNop27),
      (0b010000_1_0000000000000000000_101000#32, .cop0CoNop28),
      (0b010000_1_0000000000000000000_101001#32, .cop0CoNop29),
      (0b010000_1_0000000000000000000_101010#32, .cop0CoNop2a),
      (0b010000_1_0000000000000000000_101011#32, .cop0CoNop2b),
      (0b010000_1_0000000000000000000_101100#32, .cop0CoNop2c),
      (0b010000_1_0000000000000000000_101101#32, .cop0CoNop2d),
      (0b010000_1_0000000000000000000_101110#32, .cop0CoNop2e),
      (0b010000_1_0000000000000000000_101111#32, .cop0CoNop2f),
      (0b010000_1_0000000000000000000_110000#32, .cop0CoNop30),
      (0b010000_1_0000000000000000000_110001#32, .cop0CoNop31),
      (0b010000_1_0000000000000000000_110010#32, .cop0CoNop32),
      (0b010000_1_0000000000000000000_110011#32, .cop0CoNop33),
      (0b010000_1_0000000000000000000_110100#32, .cop0CoNop34),
      (0b010000_1_0000000000000000000_110101#32, .cop0CoNop35),
      (0b010000_1_0000000000000000000_110110#32, .cop0CoNop36),
      (0b010000_1_0000000000000000000_110111#32, .cop0CoNop37),
      (0b010000_1_0000000000000000000_111000#32, .cop0CoNop38),
      (0b010000_1_0000000000000000000_111001#32, .cop0CoNop39),
      (0b010000_1_0000000000000000000_111010#32, .cop0CoNop3a),
      (0b010000_1_0000000000000000000_111011#32, .cop0CoNop3b),
      (0b010000_1_0000000000000000000_111100#32, .cop0CoNop3c),
      (0b010000_1_0000000000000000000_111101#32, .cop0CoNop3d),
      (0b010000_1_0000000000000000000_111110#32, .cop0CoNop3e),
      (0b010000_1_0000000000000000000_111111#32, .cop0CoNop3f)] : List (Word × Instr)), decode x.1 = x.2 := by
  decide

theorem test_decode_cop2 :
    ∀ x ∈ ([
      (0b010010_00000_00010_00011_00000000000#32, .mfc2 2 3),
      (0b010010_00010_00010_00011_00000000000#32, .cfc2 2 3),
      (0b010010_00100_00010_00011_00000000000#32, .mtc2 2 3),
      (0b010010_00110_00010_00011_00000000000#32, .ctc2 2 3),
      (0b010010_01000_00000_1000000000000101#32, .bc2f 0x8005),
      (0b010010_01000_00001_1000000000000101#32, .bc2t 0x8005),
      (0b010010_1_0000110000000000000000001#32, .cop2 0x180001)] : List (Word × Instr)), decode x.1 = x.2 := by
  decide

theorem test_decode_cop2_no_operations :
    ∀ x ∈ ([
      (0b010010_00001_00000_00000_00000000000#32, .cop2NopRs01),
      (0b010010_00011_00000_00000_00000000000#32, .cop2NopRs03),
      (0b010010_00101_00000_00000_00000000000#32, .cop2NopRs05),
      (0b010010_00111_00000_00000_00000000000#32, .cop2NopRs07),
      (0b010010_01001_00000_00000_00000000000#32, .cop2NopRs09),
      (0b010010_01010_00000_00000_00000000000#32, .cop2NopRs10),
      (0b010010_01011_00000_00000_00000000000#32, .cop2NopRs11),
      (0b010010_01100_00000_00000_00000000000#32, .cop2NopRs12),
      (0b010010_01101_00000_00000_00000000000#32, .cop2NopRs13),
      (0b010010_01110_00000_00000_00000000000#32, .cop2NopRs14),
      (0b010010_01111_00000_00000_00000000000#32, .cop2NopRs15)] : List (Word × Instr)), decode x.1 = x.2 := by
  decide
/-- Ignored fields do not matter (R116): SLL with rs = 31 and ADDU with sa = 31. -/
theorem test_decode_ignored_fields :
    decode 0b000000_11111_00010_00011_00100_000000#32 = .sll 3 2 4 ∧
      decode 0b000000_00001_00010_00011_11111_100001#32 = .addu 3 1 2 := by
  decide

/-- Little-endian bytes of an instruction word (R69), and what is left over. -/
theorem test_decodeBytes_addu : decodeBytes [0x21, 0x18, 0x22, 0x00, 0xFF] = .ok (.addu 3 1 2, [0xFF]) := by decide
theorem test_encodeBytes_addu : encodeBytes (.addu 3 1 2) = [0x21, 0x18, 0x22, 0x00] := by decide

/-- The host's two entry points agree on one row: the word decodes, and the step after reset runs it. -/
theorem test_fetch_word_runs :
    decodeTableWord 32 0x34210100 = some (.ori 1 1 0x100) ∧
      (match step (State.reset.withFetchWord 32 0x34210100) with
       | .next t => some (t.reg 1, t.pc)
       | _ => none) = some (0x100, 0xBFC00004) := by
  decide

/-! ## ALU vectors -/

theorem test_w3_add : stepped 0x00221820 (regs [(1, 0x7FFFFFFF), (2, 1), (3, 0xDEADBEEF)] start)
    (fun t => (trapped t, t.reg 3)) = some ((0x80000080, 0x80001000, 0x00000030), 0xDEADBEEF) := by decide
theorem test_a1_add : stepped 0x00221820 (regs [(1, 0xFFFFFFFF), (2, 1)] start) (·.reg 3) = some 0 := by decide
theorem test_a4_sub : stepped 0x00221822 (regs [(2, 0x80000000)] start) (·.cause) = some 0x00000030 := by decide
theorem test_a5_sub : stepped 0x00221822 (regs [(1, 5), (2, 7)] start) (·.reg 3) = some 0xFFFFFFFE := by decide
theorem test_w4_addu : stepped 0x00221821 (regs [(1, 0x7FFFFFFF), (2, 1)] start)
    (fun t => (t.reg 3, t.pc)) = some (0x80000000, 0x80001004) := by decide
theorem test_w1_addu_r0 : stepped 0x00220021 (regs [(1, 1), (2, 2)] start) (fun t => (t.reg 0, t.regs[0])) = some (0, 0) := by
  decide
theorem test_a6_subu : stepped 0x00221823 (regs [(2, 1)] start) (·.reg 3) = some 0xFFFFFFFF := by decide
theorem test_a7_and : stepped 0x00221824 (regs [(1, 0xF0F0F0F0), (2, 0xFF00FF00)] start) (·.reg 3) = some 0xF000F000 := by decide
theorem test_a8_or : stepped 0x00221825 (regs [(1, 0xF0F0F0F0), (2, 0xFF00FF00)] start) (·.reg 3) = some 0xFFF0FFF0 := by decide
theorem test_a9_xor : stepped 0x00221826 (regs [(1, 0xF0F0F0F0), (2, 0xFF00FF00)] start) (·.reg 3) = some 0x0FF00FF0 := by decide
theorem test_a10_nor : stepped 0x00221827 (regs [(1, 0xF0F0F0F0), (2, 0xFF00FF00)] start) (·.reg 3) = some 0x000F000F := by decide
theorem test_a11_slt : stepped 0x0022182A (regs [(1, 0xFFFFFFFF), (2, 1)] start) (·.reg 3) = some 1 := by decide
theorem test_a12_sltu : stepped 0x0022182B (regs [(1, 0xFFFFFFFF), (2, 1)] start) (·.reg 3) = some 0 := by decide
theorem test_a14_addi : stepped 0x2022FFFF (regs [(1, 0x80000000), (2, 0xDEADBEEF)] start)
    (fun t => (t.cause, t.reg 2)) = some (0x00000030, 0xDEADBEEF) := by decide
theorem test_a16_addi : stepped 0x20220001 (regs [(1, 0x7FFFFFFF)] start) (·.pc) = some 0x80000080 := by decide
theorem test_a15_addiu : stepped 0x2422FFFF (regs [(1, 0x80000000)] start) (·.reg 2) = some 0x7FFFFFFF := by decide
theorem test_a17_slti : stepped 0x2822FFFF (regs [(1, 0xFFFFFFFE)] start) (·.reg 2) = some 1 := by decide
theorem test_a18_sltiu : stepped 0x2C22FFFF (regs [(1, 0xFFFFFFFE)] start) (·.reg 2) = some 1 := by decide
theorem test_a19_sltiu : stepped 0x2C22FFFF (regs [(1, 0xFFFFFFFF)] start) (·.reg 2) = some 0 := by decide
theorem test_a20_andi : stepped 0x3022FFFF (regs [(1, 0x12345678)] start) (·.reg 2) = some 0x00005678 := by decide
theorem test_a21_ori : stepped 0x34228000 (regs [(1, 0x12345678)] start) (·.reg 2) = some 0x1234D678 := by decide
theorem test_a22_xori : stepped 0x3822FFFF (regs [(1, 0x12345678)] start) (·.reg 2) = some 0x1234A987 := by decide
theorem test_a23_lui : stepped 0x3C02ABCD start (·.reg 2) = some 0xABCD0000 := by decide
theorem test_a24_sll : stepped 0x00011900 (regs [(1, 0x12345678)] start) (·.reg 3) = some 0x23456780 := by decide
theorem test_a25_srl : stepped 0x00011902 (regs [(1, 0x80000000)] start) (·.reg 3) = some 0x08000000 := by decide
theorem test_a26_sra : stepped 0x00011903 (regs [(1, 0x80000000)] start) (·.reg 3) = some 0xF8000000 := by decide
theorem test_a27_sllv : stepped 0x00411804 (regs [(1, 0x12345678), (2, 0x24)] start) (·.reg 3) = some 0x23456780 := by decide
theorem test_a28_srlv : stepped 0x00411806 (regs [(1, 0x80000000), (2, 0x24)] start) (·.reg 3) = some 0x08000000 := by decide
theorem test_a29_srav : stepped 0x00411807 (regs [(1, 0x80000000), (2, 31)] start) (·.reg 3) = some 0xFFFFFFFF := by decide

/-! ## Multiply and divide vectors -/

theorem test_m1_mult : stepped 0x00220018 (regs [(1, 0xFFFFFFFF), (2, 0xFFFFFFFF)] start)
    (fun t => (t.hi, t.lo)) = some (0, 1) := by decide
theorem test_m3_mult : stepped 0x00220018 (regs [(1, 0x80000000), (2, 0x80000000)] start)
    (fun t => (t.hi, t.lo)) = some (0x40000000, 0) := by decide
theorem test_m2_multu : stepped 0x00220019 (regs [(1, 0xFFFFFFFF), (2, 0xFFFFFFFF)] start)
    (fun t => (t.hi, t.lo)) = some (0xFFFFFFFE, 1) := by decide
theorem test_m4_multu : stepped 0x00220019 (regs [(1, 0x12345678), (2, 0x9ABCDEF0)] start)
    (fun t => (t.hi, t.lo)) = some (0x0B00EA4E, 0x242D2080) := by decide
theorem test_m6_div : stepped 0x0022001A (regs [(1, 0xFFFFFFF9), (2, 2)] start)
    (fun t => (t.hi, t.lo)) = some (0xFFFFFFFF, 0xFFFFFFFD) := by decide
theorem test_m8_div : stepped 0x0022001A (regs [(1, 0xFFFFFFFB)] start)
    (fun t => (t.hi, t.lo)) = some (0xFFFFFFFB, 1) := by decide
theorem test_w5_divu : stepped 0x0022001B (regs [(1, 5)] start) (fun t => (t.hi, t.lo)) = some (5, 0xFFFFFFFF) := by decide
theorem test_m11_divu : stepped 0x0022001B (regs [(1, 0x80000000), (2, 0xFFFFFFFF)] start)
    (fun t => (t.hi, t.lo)) = some (0x80000000, 0) := by decide
theorem test_m12_mfhi : stepped 0x00001810 { start with hi := 7, lo := 15 } (·.reg 3) = some 7 := by decide
theorem test_m12_mflo : stepped 0x00002012 { start with hi := 7, lo := 15 } (·.reg 4) = some 15 := by decide
theorem test_m12_mthi : stepped 0x00200011 (regs [(1, 3)] { start with lo := 15 }) (fun t => (t.hi, t.lo)) = some (3, 15) := by
  decide
theorem test_m12_mtlo : stepped 0x00400013 (regs [(2, 5)] { start with hi := 7 }) (fun t => (t.hi, t.lo)) = some (7, 5) := by
  decide

/-! ## Branch and jump vectors: the pc pair after the branch -/

theorem test_b1_beq : stepped 0x10220002 (regs [(1, 5), (2, 5)] start)
    (fun t => (t.pc, t.npc, t.bd, t.bt)) = some (0x80001004, 0x8000100C, true, true) := by decide
theorem test_b2_beq : stepped 0x10220002 (regs [(1, 5), (2, 6)] start)
    (fun t => (t.pc, t.npc, t.bd, t.bt)) = some (0x80001004, 0x80001008, true, false) := by decide
theorem test_b3_bne : stepped 0x14220002 (regs [(1, 5), (2, 6)] start) (·.npc) = some 0x8000100C := by decide
theorem test_b4_blez : stepped 0x18200002 start (·.npc) = some 0x8000100C := by decide
theorem test_b5_bgtz : stepped 0x1C200002 start (·.npc) = some 0x80001008 := by decide
theorem test_b6_bgtz : stepped 0x1C200002 (regs [(1, 1)] start) (·.npc) = some 0x8000100C := by decide
theorem test_b7_bltz : stepped 0x04200002 (regs [(1, 0x80000000)] start) (·.npc) = some 0x8000100C := by decide
theorem test_b8_bltz_alias : stepped 0x04220002 (regs [(1, 0x80000000)] start) (·.npc) = some 0x8000100C := by decide
theorem test_b9_bgez : stepped 0x04210002 start (·.npc) = some 0x8000100C := by decide
theorem test_b10_bltzal : stepped 0x04300002 (regs [(31, 0xDEADBEEF)] start)
    (fun t => (t.npc, t.reg 31)) = some (0x80001008, 0x80001008) := by decide
theorem test_b11_bgezal : stepped 0x04310002 start (fun t => (t.npc, t.reg 31)) = some (0x8000100C, 0x80001008) := by decide
theorem test_b12_bgez_alias : stepped 0x04330002 (regs [(31, 0xDEADBEEF)] start)
    (fun t => (t.npc, t.reg 31)) = some (0x8000100C, 0xDEADBEEF) := by decide
theorem test_b13_beq_back : stepped 0x1000FFFF start (·.npc) = some 0x80001000 := by decide
theorem test_b14_j : stepped 0x08000800 start (·.npc) = some 0x80002000 := by decide
theorem test_b15_jal : stepped 0x0C000800 (regs [(31, 0xDEADBEEF)] start)
    (fun t => (t.npc, t.reg 31)) = some (0x80002000, 0x80001008) := by decide
theorem test_b16_jr : stepped 0x00200008 (regs [(1, 0x80002000)] start) (·.npc) = some 0x80002000 := by decide
theorem test_b17_jalr : stepped 0x0020F809 (regs [(1, 0x80002000)] start)
    (fun t => (t.npc, t.reg 31)) = some (0x80002000, 0x80001008) := by decide
theorem test_b18_jalr : stepped 0x00202809 (regs [(1, 0x80002000)] start)
    (fun t => (t.npc, t.reg 5, t.reg 31)) = some (0x80002000, 0x80001008, 0) := by decide
/-- B19: a misaligned target faults at its fetch. -/
theorem test_b19_fetch : stepped 0 { start with pc := 0x80002002, npc := 0x80002006 }
    (fun t => (trapped t, t.badVaddr)) = some ((0x80000080, 0x80002002, 0x00000010), 0x80002002) := by decide
/-- B20 and B21: an overflow in a delay slot. -/
theorem test_b20_slot : stepped 0x20220001
    (regs [(1, 0x7FFFFFFF)] { start with pc := 0x80001004, npc := 0x8000100C, bd := true, bt := true })
    (fun t => (trapped t, t.tar, t.reg 2)) = some ((0x80000080, 0x80001000, 0xC0000030), 0x8000100C, 0) := by decide
theorem test_b21_slot : stepped 0x20220001
    (regs [(1, 0x7FFFFFFF)] { start with pc := 0x80001004, npc := 0x80001008, bd := true })
    (fun t => (trapped t, t.tar)) = some ((0x80000080, 0x80001000, 0x80000030), 0x80001008) := by decide
theorem test_branch_in_slot_refused : refusal 0x10000002 { start with bd := true } = some .branchInDelaySlot := by decide

/-! ## Load vectors: the pending load -/

theorem test_l1_lb : stepped 0x80030110 (bytes (regs [(3, 0xAABBCCDD)] start))
    (fun t => (t.reg 3, t.ld)) = some (0xAABBCCDD, some ⟨3, 0xFFFFFF80⟩) := by decide
theorem test_l2_lbu : stepped 0x90030110 (bytes start) (·.ld) = some (some ⟨3, 0x00000080⟩) := by decide
theorem test_l3_lh : stepped 0x84030110 (bytes start) (·.ld) = some (some ⟨3, 0xFFFF9280⟩) := by decide
theorem test_l14_lh : stepped 0x84030111 (bytes start) (fun t => (t.badVaddr, t.ld)) = some (0x00000111, none) := by decide
theorem test_l4_lhu : stepped 0x94030110 (bytes start) (·.ld) = some (some ⟨3, 0x00009280⟩) := by decide
theorem test_l5_lw : stepped 0x8C030100 (bytes start) (·.ld) = some (some ⟨3, 0x44332211⟩) := by decide
theorem test_l15_lw : stepped 0x8C030102 (bytes start)
    (fun t => (trapped t, t.badVaddr)) = some ((0x80000080, 0x80001000, 0x30000010), 0x00000102) := by decide
theorem test_l7_lwl : stepped 0x88030101 (bytes (regs [(3, 0xAABBCCDD)] start)) (·.ld) = some (some ⟨3, 0x2211CCDD⟩) := by decide
/-- L31: LWL merges into the value a pending load of its register is about to deliver. -/
theorem test_l31_lwl : stepped 0x88020104 (bytes (regs [(2, 0xAABBCCDD)] { start with ld := some ⟨2, 0xAA443322⟩ }))
    (fun t => (t.reg 2, t.ld)) = some (0xAABBCCDD, some ⟨2, 0x55443322⟩) := by decide
theorem test_l11_lwr : stepped 0x98030101 (bytes (regs [(3, 0xAABBCCDD)] start)) (·.ld) = some (some ⟨3, 0xAA443322⟩) := by decide
theorem test_l13_lwr : stepped 0x98030103 (bytes (regs [(3, 0xAABBCCDD)] start)) (·.ld) = some (some ⟨3, 0xAABBCC44⟩) := by decide
/-- L33: a load cancels the pending load of its register. -/
theorem test_l33_cancel : stepped 0x8C050104 (bytes (regs [(5, 0x99)] { start with ld := some ⟨5, 0x44332211⟩ }))
    (fun t => (t.reg 5, t.ld)) = some (0x99, some ⟨5, 0x88776655⟩) := by decide
/-- L35: an instruction's own write wins over the committed load. -/
theorem test_l35_own_write : stepped 0x24050001 { start with ld := some ⟨5, 0x44332211⟩ }
    (fun t => (t.reg 5, t.ld)) = some (1, none) := by decide
/-- W2: the instruction in the load-delay slot reads the old value. -/
theorem test_w2_delay_slot : stepped 0x00A63821 (regs [(5, 7), (6, 1)] { start with ld := some ⟨5, 0x1234⟩ })
    (fun t => (t.reg 7, t.reg 5)) = some (8, 0x1234) := by decide
theorem test_l39_user_load : stepped 0x8C220000 (regs [(1, 0x80000000)] { user with pc := 0x00001004, npc := 0x00001008 })
    (fun t => (trapped t, t.badVaddr, t.sr)) = some ((0x80000080, 0x00001004, 0x30000010), 0x80000000, 0x00000008) := by decide
theorem test_l41_user_fetch : stepped 0 { start with sr := 2 }
    (fun t => (trapped t, t.badVaddr, t.sr)) = some ((0x80000080, 0x80001000, 0x00000010), 0x80001000, 0x00000008) := by decide
theorem test_lb_biu_refused : refusal 0x80230130 (regs [(1, 0xFFFE0000)] start) = some .biuPartialAccess := by decide

/-! ## Store vectors: the word at 0x108 and the request made -/

theorem test_l18_sb : stepped 0xA0030108 (regs [(3, 0x55443322)] start)
    (fun t => (t.mem.readLE 0x108#32 4, t.events)) = some (0x00000022, [.extWrite 0x108 1 0x22]) := by decide
theorem test_l19_sh : stepped 0xA4030108 (regs [(3, 0x55443322)] start) (·.events) = some [.extWrite 0x108 2 0x3322] := by decide
theorem test_l16_sh : stepped 0xA4030101 (regs [(3, 0x55443322)] start)
    (fun t => (t.badVaddr, t.cause, t.events)) = some (0x00000101, 0x10000014, []) := by decide
theorem test_l20_sw : stepped 0xAC030108 (regs [(3, 0x55443322)] start)
    (fun t => t.mem.readLE 0x108#32 4) = some 0x55443322 := by decide
/-- L36: the store writes the value its register held before the pending load. -/
theorem test_l36_sw : stepped 0xAC050108 (regs [(5, 0x99)] { start with ld := some ⟨5, 0x44332211⟩ })
    (fun t => (t.events, t.reg 5)) = some ([.extWrite 0x108 4 0x99], 0x44332211) := by decide
theorem test_l29_swl : stepped 0xA8030109 (words [(0x108, 0xDDCCBBAA)] (regs [(3, 0x55443322)] start))
    (fun t => (t.mem.readLE 0x108#32 4, t.events)) = some (0xDDCC5544, [.extWrite 0x108 2 0x5544]) := by decide
theorem test_l24_swl : stepped 0xA803010B (regs [(3, 0x55443322)] start) (·.events) = some [.extWrite 0x108 4 0x55443322] := by
  decide
theorem test_l30_swr : stepped 0xB803010A (words [(0x108, 0xDDCCBBAA)] (regs [(3, 0x55443322)] start))
    (fun t => (t.mem.readLE 0x108#32 4, t.events)) = some (0x3322BBAA, [.extWrite 0x10A 2 0x3322]) := by decide
theorem test_l26_swr : stepped 0xB8030109 (regs [(3, 0x55443322)] start) (·.events) = some [.extWrite 0x109 3 0x443322] := by
  decide
theorem test_l40_user_store : stepped 0xAC220000 (regs [(1, 0xA0000000)] { user with pc := 0x00001004, npc := 0x00001008 })
    (fun t => (t.badVaddr, t.cause)) = some (0xA0000000, 0x30000014) := by decide
/-- R41: switching the cache on clears bit 0 of every TV word, bits 6 and 10 of BIU stay zero. -/
theorem test_sw_biu : stepped 0xAC230130 (regs [(1, 0xFFFE0000), (3, 0x0001EDFF)] start)
    (fun t => (t.biu, (t.ic.read 0).tv, (t.ic.read 1023).tv)) = some (0x0001E9BF, 2, 2) := by decide
/-- R73: an isolated store with the tag test invalidates the line and writes no memory. -/
theorem test_sw_isolated_tag : stepped 0xAC030108 (regs [(3, 0x55443322)]
    { start with sr := 0x00010000, biu := 0x00000804, ic := ⟨[(0x42, ⟨0x00000108, 7⟩), (0x44, ⟨0x00000110, 8⟩)], ⟨2, 0⟩⟩ })
    (fun t => (t.ic.read 0x42, t.ic.read 0x44, t.events)) = some (⟨2, 7⟩, ⟨0x00000110, 8⟩, []) := by decide

/-! ## System and coprocessor vectors -/

theorem test_s1_syscall : stepped 0x0000000C { start with sr := 1 }
    (fun t => (trapped t, t.sr)) = some ((0x80000080, 0x80001000, 0x00000020), 0x00000004) := by decide
theorem test_s3_syscall : stepped 0x03FFFFCC { start with sr := 0x00400001 }
    (fun t => (t.pc, t.sr, t.cause)) = some (0xBFC00180, 0x00400004, 0x00000020) := by decide
theorem test_s2_break : stepped 0x0000000D { start with sr := 1 } (fun t => (t.cause, t.sr)) = some (0x00000024, 4) := by decide
theorem test_s5_mfc0 : stepped 0x401A7000 (regs [(26, 0x77)] { start with epc := 0x80001008 })
    (fun t => (t.reg 26, t.ld)) = some (0x77, some ⟨26, 0x80001008⟩) := by decide
theorem test_s7_mfc0 : stepped 0x401A0000 start (·.cause) = some 0x00000028 := by decide
theorem test_s8_mtc0 : stepped 0x40816000 (regs [(1, 0xFFFFFFFC)] start) (·.sr) = some 0xF27FFF3C := by decide
theorem test_s9_mtc0 : stepped 0x40816800 (regs [(1, 0xFFFFFFFF)] start) (·.cause) = some 0x00000300 := by decide
theorem test_s11_rfe : stepped 0x42000010 { start with sr := 0x00000404 } (·.sr) = some 0x00000401 := by decide
theorem test_s13b_rfe : stepped 0x42000010 { start with sr := 0x0000000D } (·.sr) = some 0x00000003 := by decide
theorem test_s15_cfc0 : stepped 0x40410000 start (·.cause) = some 0x00000028 := by decide
theorem test_s16_cfc0 : stepped 0x40410000 user (·.cause) = some 0x0000002C := by decide
theorem test_ctc0 : stepped 0x40C10000 start (·.cause) = some 0x00000028 := by decide
theorem test_s17_tlbwi : stepped 0x42000002 start (·.cause) = some 0x00000028 := by decide
theorem test_s18_cop0_co_funct_20 : stepped 0x42000020 start (·.pc) = some 0x80001004 := by decide
theorem test_s18_cop0_rs_3 : stepped 0x40600000 start (·.pc) = some 0x80001004 := by decide
theorem test_s19_bc0f : stepped 0x41000001 start (fun t => (t.npc, t.bt)) = some (0x80001008, true) := by decide
theorem test_s20_bc0t : stepped 0x41010001 start (fun t => (t.npc, t.bt)) = some (0x80001008, false) := by decide
theorem test_s21_mfc0_user : stepped 0x40016000 { user with sr := 0x10000002 } (·.ld) = some (some ⟨1, 0x10000002⟩) := by decide
theorem test_s22_mfc2 : stepped 0x48016000 start (·.cause) = some 0x2000002C := by decide
theorem test_s25_mtc2 : stepped 0x48816000 (regs [(1, 0x1234)] { start with sr := 0x40000000 })
    (·.events) = some [.gteWriteData 12 0x1234] := by decide
theorem test_cfc2 : stepped 0x48420800 { start with sr := 0x40000000 }
    (fun t => (t.events, t.ld.map (·.reg))) = some ([.gteReadCtrl 1], some 2) := by decide
theorem test_ctc2 : stepped 0x48C10800 (regs [(1, 0x1234)] { start with sr := 0x40000000 })
    (·.events) = some [.gteWriteCtrl 1 0x1234] := by decide
theorem test_s23_cop2 : stepped 0x4A000001 start (·.cause) = some 0x2000002C := by decide
theorem test_s26_cop2 : stepped 0x4A180001 { start with sr := 0x40000000 } (·.events) = some [.gteCommand 0x0180001] := by decide
theorem test_s24_lwc2 : stepped 0xC8800000 start (·.cause) = some 0x2000002C := by decide
theorem test_s27_lwc2 : stepped 0xC8800002 { start with sr := 0x40000000 }
    (fun t => (t.badVaddr, t.cause)) = some (0x00000002, 0x20000010) := by decide
theorem test_swc2 : stepped 0xE8800108 { start with sr := 0x40000000 }
    (fun t => t.events.length) = some 2 := by decide
theorem test_s28_cop1 : stepped 0x44010000 start (·.cause) = some 0x1000002C := by decide
theorem test_s29_cop1 : refusal 0x44010000 { start with sr := 0x20000000 } = some .absentCoprocessor := by decide
theorem test_s30_cop3 : stepped 0x4C010000 start (·.cause) = some 0x3000002C := by decide
theorem test_s31_lwc0 : refusal 0xC0010000 start = some .absentCoprocessor := by decide
theorem test_s31_swc0 : refusal 0xE0010000 start = some .absentCoprocessor := by decide
theorem test_s32_lwc3 : stepped 0xCC010000 start (·.cause) = some 0x3000002C := by decide
theorem test_r1_reserved : stepped 0x50000000 start (·.cause) = some 0x00000028 := by decide
theorem test_r3_reserved : stepped 0xFC000000 start (·.cause) = some 0x30000028 := by decide
theorem test_r4_reserved : stepped 0x00000001 start (·.cause) = some 0x00000028 := by decide

/-! ## Interrupt vectors -/

theorem test_e1_interrupt : stepped 0x24010005 { start with sr := 0x00000401, cause := 0x00000400 }
    (fun t => (trapped t, t.sr, t.reg 1)) = some ((0x80000080, 0x80001000, 0x10000400), 0x00000404, 0) := by decide
theorem test_e2_interrupt_disabled : stepped 0x24010005 { start with sr := 0x00000400, cause := 0x00000400 }
    (·.reg 1) = some 5 := by decide
theorem test_e3_interrupt_masked : stepped 0x24010005 { start with sr := 0x00000001, cause := 0x00000400 }
    (·.reg 1) = some 5 := by decide
theorem test_e5_interrupt_in_slot : stepped 0x24020001
    { start with pc := 0x80001004, npc := 0x80001010, bd := true, bt := true, sr := 0x00000401, cause := 0x00000400 }
    (fun t => (t.epc, t.tar, t.cause)) = some (0x80001000, 0x80001010, 0xD0000400) := by decide
theorem test_e6_interrupt_commits_load : stepped 0x24020001
    { start with sr := 0x00000401, cause := 0x00000400, ld := some ⟨5, 0x1234⟩ }
    (fun t => (t.reg 5, t.ld)) = some (0x1234, none) := by decide
theorem test_e7_trap_commits_load : stepped 0x00A12820
    (regs [(1, 0x7FFFFFFF), (5, 0x7FFFFFFF)] { start with ld := some ⟨5, 0x1234⟩ })
    (fun t => (t.reg 5, t.cause)) = some (0x1234, 0x00000030) := by decide

/-! ## Host calls -/

theorem test_w1_set_register_0 :
    (match setRegister 0 0x12345678 start with
     | .next t => some (t.reg 0)
     | _ => none) = some 0 := by decide
theorem test_set_register_pc :
    (match setRegister 32 0x80002000 { start with bd := true } with
     | .next t => some (t.pc, t.npc, t.bd)
     | _ => none) = some (0x80002000, 0x80002004, false) := by decide
theorem test_get_register_ppu_mode :
    (match getRegister 69 { start with ppu := { Ppu.reset with mode := .mode3LoadSprite } } with
     | .ok v => some v
     | .error _ => none) = some 3 := by decide
theorem test_assert_irq_5 :
    (match assertIrq 5 true start with
     | .next t => some t.cause
     | _ => none) = some 0x00008000 := by decide

/-! ## Video block vectors -/

/-- A candidate of 95_test_vectors.md, with its OAM index as its palette. -/
def cand (oamIndex x : Nat) (ci : BitVec 2) (bgp : Bool) : SpritePixel := ⟨oamIndex, x, ci, bgp, oamIndex⟩

/-- The background pixel of 95_test_vectors.md. -/
def bg (ci : BitVec 2) : BgPixel := ⟨.bg, 0, ci⟩

theorem test_v1 : resolveLookup .oamIndex (bg 1) [cand 5 10 1 false, cand 2 3 2 false, cand 7 0 3 false] = (.sprite, 2, 2) := by
  decide
theorem test_v1x : resolveLookup .xPosition (bg 1) [cand 5 10 1 false, cand 2 3 2 false, cand 7 0 3 false] = (.sprite, 7, 3) := by
  decide
theorem test_v2 : resolveLookup .oamIndex (bg 2) [cand 0 0 0 false] = (.bg, 0, 2) := by decide
theorem test_v3 : resolveLookup .oamIndex (bg 2) [cand 1 0 0 false, cand 3 0 2 false] = (.sprite, 3, 2) := by decide
theorem test_v4 : resolveLookup .oamIndex (bg 1) [cand 1 0 3 true] = (.bg, 0, 1) := by decide
theorem test_v5 : resolveLookup .oamIndex (bg 0) [cand 1 0 3 true] = (.sprite, 1, 3) := by decide
theorem test_v6 : resolveLookup .oamIndex (bg 1) [cand 1 0 3 true, cand 4 0 2 false] = (.bg, 0, 1) := by decide
theorem test_v7 : resolveLookup .xPosition (bg 1) [cand 6 8 1 false, cand 2 8 2 false] = (.sprite, 2, 2) := by decide
theorem test_v10 : resolveLookup .oamIndex (bg 0) [] = (.bg, 0, 0) := by decide

/-- A small platform for the engine: register 0 enables the window, whose trigger is at 3, register 1 the sprites and register 2 the background, which is on
until written; a line is 5 pixels. A byte of VRAM is its own address; a map entry's byte names the tile line's byte and the palette, and every pixel of a tile
has color index 1. The background's map lies at 0, the window's at 16. OAM holds two sprites of two bytes, y and x. -/
def env : PpuEnv where
  tMode3Start := fun d => if d then 4 else 2
  tPrefetch := fun _ => 1
  tSprite := fun n _ _ => n
  tWindow := 1
  lineWidth := 5
  tLine := 20
  lastVisibleLine := 1
  vblankLines := 2
  vramRead := fun a => BitVec.ofNat 8 a
  oamRead := fun a => BitVec.ofNat 8 ([0, 2, 0, 1].getD a 0)
  oamEntries := 2
  oamEntrySize := 2
  oamDecode := fun bs => ⟨(bs.getD 0 0).toNat, (bs.getD 1 0).toNat, 0, false, 0⟩
  spriteLineAddrs := fun _ _ row => [row, 0x1B]
  spriteLineDecode := fun _ bs => (bs.getD 0 0).setWidth 8 ++ (bs.getD 1 0).setWidth 8
  mapAddrs := fun _ _ w c => [if w then 16 + c else c]
  tileAddrs := fun _ _ _ bs => bs.map BitVec.toNat
  tileDecode := fun _ bs => ⟨0x5555, (bs.getD 0 0).toNat⟩
  paletteLookup := fun l pal ci => match l with
    | .bg => pal
    | .window => pal
    | .sprite => 100 + ci.toNat
  doubleSpeed := fun _ => false
  scrollFine := fun _ => 0
  spritesEnabled := fun w => (w.lookup 1).getD 0 == 1
  bgEnabled := fun w => (w.lookup 2).getD 1 == 1
  bgOff := fun _ => (50, 0)
  tallSprites := fun _ => false
  windowEnabled := fun w => (w.lookup 0).getD 0 == 1
  windowX := fun _ => 3

/-- The engine at tile-fetch in the middle of a line, the window enabled. -/
def midLine (xpos : Nat) (started : Bool) : Ppu :=
  { Ppu.reset with
    mode := .mode3TileFetch
    xpos := xpos
    now := 6
    winRequested := started
    winStarted := started
    writes := [(0, 1)]
    tileCur := ⟨0x5555, if started then 16 else 0⟩
    tileLeft := 8
    nextColumn := 1 }

/-- The line buffer after an advance to a cycle, the writes (register, value, cycle) made on the way. -/
def lineAfter (e : PpuEnv) (cycle : Nat) : List (Nat × Nat × Nat) → Ppu → Option (List Nat)
  | [], p => (ppuAdvance e .oamIndex cycle p).toOption.map (·.line)
  | w :: ws, p =>
    match ppuRegisterWrite e .oamIndex w.1 w.2.1 w.2.2 p with
    | .ok q => lineAfter e cycle ws q
    | .error _ => none

/-- V8: the window disabled before the cursor reaches its trigger never starts on the line. -/
theorem test_v8 :
    (match ppuRegisterWrite env .oamIndex 0 0 7 (midLine 1 false) with
     | .ok p => (ppuAdvance env .oamIndex 12 p).toOption.map (fun q => (q.winRequested, q.line, q.mode))
     | .error _ => none) = some (false, [0, 0, 0, 0], .endOfLine) := by decide
/-- V9: once started it draws to the end of the line. -/
theorem test_v9 :
    (match ppuRegisterWrite env .oamIndex 0 0 7 (midLine 3 true) with
     | .ok p => (ppuAdvance env .oamIndex 8 p).toOption.map (·.line)
     | .error _ => none) = some [16, 16] := by decide
/-- R353: enabled again after the cursor has passed the trigger, the window does not start late. -/
theorem test_window_suppressed : lineAfter env 11 [(0, 0, 7), (0, 1, 8)] (midLine 1 false) = some [0, 0, 0, 0] := by decide
/-- R355: a write that disables the background takes effect at its cycle, and one that enables it again too. -/
theorem test_background_disabled : lineAfter { env with windowX := fun _ => 30 } 11 [(2, 0, 7), (2, 1, 9)] (midLine 0 false) =
    some [0, 50, 50, 0, 0] := by decide
/-- R353: it does not reach a window that has started. -/
theorem test_background_disabled_window : lineAfter env 8 [(2, 0, 7)] (midLine 3 true) = some [16, 16] := by decide
/-- R346: at its start the window's fetch restarts from column 0 of its tile map, and its tiles follow one another. -/
theorem test_window_restarts : lineAfter { env with lineWidth := 20 } 11 [] (midLine 2 false) = some [0, 16, 16, 16] := by decide
theorem test_window_columns : lineAfter { env with lineWidth := 20 } 16 [] { midLine 3 true with tileLeft := 1 } =
    some [16, 17, 17, 17, 17, 17, 17, 17, 17, 18] := by decide
/-- R344: two pixels left of the scroll position are discarded, so tile 1 follows after six. -/
theorem test_scroll_discards : lineAfter { env with lineWidth := 20, scrollFine := fun _ => 2 } 10 [] Ppu.reset =
    some [0, 0, 0, 0, 0, 0, 1] := by decide
/-- R345: sprites disabled while their data is being loaded cost no more time and are not drawn. -/
theorem test_sprites_disabled_in_ramp : lineAfter { env with tSprite := fun _ _ _ => 4, windowX := fun _ => 30 } 9 [(1, 0, 7)]
    { midLine 2 false with sprites := [⟨2, 0, 0x001B, 0, false, 0, false⟩], sprAcc := [0], writes := [(1, 1)] } = some [0, 0] := by
  decide
/-- R345, R350: a sprite's eight pixels, 3, 2, 1, 0 and four transparent ones, from its x-position. -/
theorem test_sprite_span : lineAfter { env with lineWidth := 20, windowX := fun _ => 30 } 14 []
    { midLine 2 false with sprites := [⟨2, 0, 0x001B, 0, false, 0, false⟩], sprAcc := [0], writes := [(1, 1)] } =
      some [103, 102, 101, 0, 0, 0, 0] := by decide
/-- R349: each line a sprite covers records its own tile line. -/
theorem test_oam_search_rows : (oamSearch env { Ppu.reset with ly := 3 }).map (fun e => (e.oamOffset, e.tileLine)) =
    [(2, 0x031B), (0, 0x031B)] := by decide
theorem test_oam_search_sorted : (oamSearch env Ppu.reset).map (·.priorityId) = [1, 0] := by decide

/-! ## Witnesses: for each statement with hypotheses, a state and operands that meet them, clause by clause -/

/-- An addu in RAM at pc. -/
def addu : State := words [(0x1000, 0x00221821)] (regs [(1, 1), (2, 2)] start)

/-- Coprocessor 2 usable. -/
def gteOn : State := { start with sr := 0x40000000 }

/-- The cache isolated and enabled. -/
def isolated : State := { start with sr := 0x00010000, biu := 0x00000800, ic := ⟨[], ⟨2, 0⟩⟩ }

/-- The cache enabled, nothing valid in it, RAM at pc. -/
def cached : State := { addu with biu := 0x00000800, ic := ⟨[], ⟨2, 0⟩⟩ }

/-- The address of BIU in r1. -/
def atBiu : State := regs [(1, 0xFFFE0130)] start

theorem witness_IgnoredBitsDoNotMatter :
    (0x00221FE1#32 &&& usedBits (decode 0x00221821#32) = 0x00221821#32 &&& usedBits (decode 0x00221821#32)) ∧
      0x00221FE1#32 ≠ 0x00221821#32 := by decide

theorem witness_EveryWordHasOneRow : 0x00221821#32 &&& (rowOf (.addu 0 0 0)).mask = (rowOf (.addu 0 0 0)).pattern := by decide

theorem witness_StepRunsDecodedInstruction :
    (aligned 4 addu.pc ∧ allowed addu addu.pc ∧ iFetch addu = .ok (0x00221821, addu) ∧ decode 0x00221821 = .addu 3 1 2 ∧
      ¬interrupted addu) ∧ ∃ t, exec (.addu 3 1 2) addu.zeroR0 = .next t :=
  ⟨⟨by decide, by decide, rfl, by decide, by unfold interrupted; decide⟩, _, rfl⟩

theorem witness_StepRunsDecodedInstruction_refused :
    let s := words [(0x1000, 0x10000002)] { start with bd := true }
    aligned 4 s.pc ∧ allowed s s.pc ∧ iFetch s = .ok (0x10000002, s) ∧ ¬interrupted s ∧
      exec (decode 0x10000002) s.zeroR0 = .refused .branchInDelaySlot :=
  ⟨by decide, by decide, rfl, by unfold interrupted; decide, rfl⟩

theorem witness_FetchAddressErrorTraps :
    ¬aligned 4 ({ start with pc := 0x80001002 } : State).pc ∧ ¬allowed { start with sr := 2 } 0x80000000 := by decide

theorem witness_InterruptPreempts :
    let s : State := { addu with sr := 0x00008001, cause := 0x00008000 }
    aligned 4 s.pc ∧ allowed s s.pc ∧ iFetch s = .ok (0x00221821, s) ∧ interrupted s ∧ refusedCommand s 0x00221821 = false :=
  ⟨by decide, by decide, rfl, by unfold interrupted; decide, by decide⟩

theorem witness_InterruptPreempts_refused :
    let s : State :=
      { words [(0x1000, 0x4A180001)] start with
        sr := 0x00000101, cause := 0x00000100, params := { Params.default with gteOnInterrupt := .refuse } }
    aligned 4 s.pc ∧ allowed s s.pc ∧ iFetch s = .ok (0x4A180001, s) ∧ interrupted s ∧ refusedCommand s 0x4A180001 = true :=
  ⟨by decide, by decide, rfl, by unfold interrupted; decide, by decide⟩

theorem witness_PendingLoadLastsOneInstruction :
    (∃ t, exec (.addu 3 1 2) { addu with ld := some ⟨5, 7⟩ } = .next t) ∧ ∃ t, exec (.lw 5 0 0x100) addu = .next t :=
  ⟨⟨_, rfl⟩, ⟨_, rfl⟩⟩

theorem witness_PhysicalAddresses :
    phys 0x7FFFFFFF = 0x7FFFFFFF ∧ phys 0x80000000 = 0 ∧ phys 0x9FFFFFFF = 0x1FFFFFFF ∧ phys 0xA0000000 = 0 ∧
      phys 0xBFFFFFFF = 0x1FFFFFFF ∧ phys 0xC0000000 = 0xC0000000 := by decide

theorem witness_FetchWithoutRefill :
    (fetchEntry { start with ic := ⟨[(0, ⟨0x80001000, 0x00221821⟩)], ⟨2, 0⟩⟩ }).tv = 0x80001000 ∧
      ((fetchEntry addu).tv ≠ addu.pc ∧ aligned 4 addu.pc ∧ cachedFetch addu = false ∧ canFetch addu (phys addu.pc) = true) ∧
      canFetch { start with pc := 0x1F800000 } 0x1F800000 = false ∧ cachedFetch { start with pc := 0x1F800000 } = false ∧
      (fetchEntry { start with pc := 0x1F800000 }).tv ≠ 0x1F800000 := by decide

theorem witness_RefillLoadsTheRestOfTheLine :
    ∀ s ∈ [cached, { cached with pc := 0x8000100C }],
      (fetchEntry s).tv ≠ s.pc ∧ cachedFetch s = true ∧
        ∀ k : BitVec 2, (s.pc.extractLsb' 2 2).toNat ≤ k.toNat →
          canFetch s (phys (s.pc.extractLsb' 4 28 ++ k ++ 0#2)) = true := by decide

theorem witness_LoadReturnsLatestStore :
    (inScratch (phys 0x9F8003FF) = true ∧ ∃ t, memWrite 0x9F8003FF 1 0x12 start = .ok t) ∧
      phys 0x801FFFFC ≠ biuPhys ∧ isRam start (phys 0x801FFFFC) 4 = true ∧ ¬start.sr.getLsbD 16 ∧
      ∃ t, memWrite 0x801FFFFC 4 0x12345678 start = .ok t :=
  ⟨⟨by decide, _, rfl⟩, by decide, by decide, by decide, _, rfl⟩

theorem witness_TrappingArithmetic :
    ((regs [(1, 0x7FFFFFFE), (2, 1)] start).reg 1).toInt + ((regs [(1, 0x7FFFFFFE), (2, 1)] start).reg 2).toInt = 2 ^ 31 - 1 ∧
      ((regs [(1, 0x80000000), (2, 1)] start).reg 1).toInt - ((regs [(1, 0x80000000), (2, 1)] start).reg 2).toInt
        = -(2 ^ 31) - 1 ∧
      ((regs [(1, 0x7FFFFFFF)] start).reg 1).toInt + (1#16).toInt = 2 ^ 31 := by decide

theorem witness_DivisionTruncates :
    (addu.reg 2 ≠ 0 ∧ ¬(addu.reg 1 = 0x80000000 ∧ addu.reg 2 = 0xFFFFFFFF)) ∧ start.reg 2 = 0 ∧
      (regs [(1, 0x80000000), (2, 0xFFFFFFFF)] start).reg 1 = 0x80000000 ∧
      (regs [(1, 0x80000000), (2, 0xFFFFFFFF)] start).reg 2 = 0xFFFFFFFF := by decide

theorem witness_OnlyMulDivWriteHiLo : writesHiLo (.addu 3 1 2) = false ∧ ∃ t, exec (.addu 3 1 2) addu = .next t := ⟨rfl, _, rfl⟩

/-- For JumpsTransferControl, ConditionalBranches, RegimmBranches and CoprocessorBranches: a state in no delay slot, in which
coprocessor 0 is usable and coprocessor 2 is not, and one in which it is the other way round. -/
theorem witness_branches :
    (start.bd = false ∧ cop0Usable start = true ∧ cop2Usable start = false) ∧
      user.bd = false ∧ cop0Usable { user with sr := 0x40000002 } = false ∧ cop2Usable { user with sr := 0x40000002 } = true := by
  decide

theorem witness_BranchInDelaySlotRefused :
    let s : State := { gteOn with bd := true }
    (Instr.bc0f 1).isBranch = true ∧ (Instr.bc2t 1).isBranch = true ∧ s.bd = true ∧ cop0Usable s ∧ cop2Usable s := by decide

/-- Misaligned; forbidden; BIU with less than a word; ordinary memory; BIU whole. -/
theorem witness_LoadsReadMemory :
    (¬aligned 2 (address start 0 0x101) ∧ ¬aligned 4 (address start 0 0x102)) ∧
      ¬allowed (regs [(1, 0x80000000)] user) (address (regs [(1, 0x80000000)] user) 1 0) ∧
      (aligned 2 (address atBiu 1 0) ∧ allowed atBiu (address atBiu 1 0) ∧ phys (address atBiu 1 0) = biuPhys) ∧
      aligned 4 (address start 0 0x100) ∧ allowed start (address start 0 0x100) ∧ phys (address start 0 0x100) ≠ biuPhys := by
  decide

theorem witness_UnalignedLoadsMerge :
    ¬allowed (regs [(1, 0x80000000)] user) (address (regs [(1, 0x80000000)] user) 1 3) ∧
      (allowed atBiu (address atBiu 1 2) ∧ phys (address atBiu 1 2 &&& 0xFFFFFFFC) = biuPhys ∧
        (address atBiu 1 2).toNat % 4 ≠ 3) ∧
      ((address atBiu 1 3).toNat % 4 = 3 ∧ phys (address atBiu 1 3 &&& 0xFFFFFFFC) = biuPhys) ∧
      allowed start (address start 0 0x103) ∧ phys (address start 0 0x103 &&& 0xFFFFFFFC) ≠ biuPhys := by decide

theorem witness_StoresWriteTheirBytes :
    (¬aligned 2 (address start 0 0x101) ∧ ¬allowed (regs [(1, 0x80000000)] user) (address (regs [(1, 0x80000000)] user) 1 0)) ∧
      (¬atBiu.sr.getLsbD 16 ∧ aligned 2 (address atBiu 1 0) ∧ allowed atBiu (address atBiu 1 0) ∧
        phys (address atBiu 1 0) = biuPhys) ∧
      ¬start.sr.getLsbD 16 ∧ aligned 4 (address start 0 0x108) ∧ allowed start (address start 0 0x108) ∧
      phys (address start 0 0x108) ≠ biuPhys := by decide

theorem witness_BiuStores :
    atBiu.ic.wf ∧ ¬atBiu.sr.getLsbD 16 ∧ allowed atBiu (address atBiu 1 0) ∧ address atBiu 1 0 = biuPhys ∧
      allowed atBiu (address atBiu 1 3) ∧ address atBiu 1 3 = biuPhys + 3 := by decide

theorem witness_IsolatedStores :
    isolated.sr.getLsbD 16 ∧ allowed isolated (address isolated 0 0x108) ∧ aligned 4 (address isolated 0 0x108) ∧
      isolated.biu.getLsbD 11 ∧ ¬isolated.biu.getLsbD 2 ∧ ¬isolated.biu.getLsbD 0 := by decide

/-- The other clauses of an isolated store: cache disabled, tag test, locked, and the scratchpad on. -/
theorem witness_IsolatedStores_modes :
    (¬(0x000#32).getLsbD 11) ∧ ((0x804#32).getLsbD 11 ∧ (0x804#32).getLsbD 2) ∧
      ((0x801#32).getLsbD 11 ∧ ¬(0x801#32).getLsbD 2 ∧ (0x801#32).getLsbD 0) ∧
      (0x880#32).getLsbD 7 ∧ ¬(0x880#32).getLsbD 0 ∧ start.params.isolatedScratchWrite := by decide

theorem witness_OnlyStoresChangeMemory : isStore (.lw 3 0 0x100) = false ∧ ∃ t, exec (.lw 3 0 0x100) start = .next t :=
  ⟨rfl, _, rfl⟩

/-- For the statements about coprocessor 0 and 2 forms: each usable somewhere and unusable somewhere, and each range of MFC0's
register numbers at its ends. -/
theorem witness_coprocessors :
    cop0Usable start = true ∧ cop0Usable user = false ∧ cop0Usable { user with sr := 0x10000002 } = true ∧
      cop2Usable start = false ∧ cop2Usable gteOn = true ∧ (10 : RegNum) ∈ ([0, 1, 2, 4, 10] : List RegNum) ∧
      16 ≤ (16 : RegNum).toNat ∧ 16 ≤ (31 : RegNum).toNat := by decide

theorem witness_UnusableCoprocessorsTrap :
    (opcodeOf (.mtc0 1 12) = 0x10 ∧ cop0Usable user = false) ∧
      opcodeOf (.swc2 0 1 2) ∈ ([0x12, 0x32, 0x3A] : List Opcode) ∧ cop2Usable user = false := by decide

theorem witness_AbsentCoprocessors :
    usable user 0 = false ∧ usable start 0 = true ∧ usable start 1 = false ∧ usable { start with sr := 0x20000000 } 1 = true ∧
      usable start 3 = false ∧ usable { start with sr := 0x80000000 } 3 = true := by decide

theorem witness_GteTransfers :
    cop2Usable gteOn = true ∧ ¬aligned 4 (address gteOn 0 0x102) ∧ aligned 4 (address gteOn 0 0x100) ∧
      allowed gteOn (address gteOn 0 0x100) ∧ ¬gteOn.sr.getLsbD 16 ∧ phys (address gteOn 0 0x100) ≠ biuPhys ∧
      (regs [(1, 0xFFFE0130)] gteOn).ic.wf ∧ phys (address (regs [(1, 0xFFFE0130)] gteOn) 1 0) = biuPhys ∧
      ({ gteOn with sr := 0x40010000 } : State).sr.getLsbD 16 := by decide

theorem witness_OnlyTrapsWriteExceptionRegisters :
    (∃ t, exec (.mtc0 1 13) addu = .next t) ∧ ∃ t, exec (.syscall 0) addu = .next t := ⟨⟨_, rfl⟩, ⟨_, rfl⟩⟩

theorem witness_UserModeCannotChangeSystemState :
    (user.sr.getLsbD 1 ∧ ¬user.sr.getLsbD 28 ∧ user.params.userKsegFault = true) ∧
      (∃ t, exec (.mtc0 1 12) user = .next t) ∧ ∃ t, exec (.sw 1 0 0x100) user = .next t :=
  ⟨by decide, ⟨_, rfl⟩, ⟨_, rfl⟩⟩

theorem witness_AssertIrqEffects :
    (∃ t, assertIrq 0 true start = .next t) ∧ (∃ t, assertIrq 5 false start = .next t) ∧
      assertIrq 6 true start = .refused .irqLineOutOfRange := ⟨⟨_, rfl⟩, ⟨_, rfl⟩, rfl⟩

/-- For StepKeepsInv and ExceptionCodesRaised: a state other than reset that meets the invariant and steps. -/
theorem witness_StepKeepsInv : Safety.Inv addu ∧ ∃ t, step addu = .next t :=
  ⟨⟨by decide, by decide, by decide, by decide, by decide, by decide, by decide, by decide, fun _ => (by decide : (3#32).getLsbD 0 = !(0#32).getLsbD 11), by decide, by decide,
    by decide⟩, _, rfl⟩

theorem witness_HostCallsKeepInv :
    (∃ t, assertIrq 0 true addu = .next t) ∧ (∃ t, setRegister 1 7 addu = .next t) ∧ ∃ t, setRegister 47 7 addu = .next t :=
  ⟨⟨_, rfl⟩, ⟨_, rfl⟩, ⟨_, rfl⟩⟩

theorem witness_PokeChangesOneByte :
    inScratch (phys 0x1F8003FF) = true ∧ (start.regionOf (phys 0x801FFFFF) 1).isSome = true ∧
      phys 0x801FFFFE ≠ phys 0x801FFFFF := by decide

theorem witness_PixelResolution :
    (∀ c ∈ [cand 1 0 0 false], c.ci = 0) ∧
      (∀ c ∈ [cand 1 0 3 true, cand 4 0 2 false], c.ci ≠ 0 → c ≠ cand 1 0 3 true → (cand 1 0 3 true).oamIndex < c.oamIndex) ∧
      ∀ c ∈ [cand 6 8 1 false, cand 2 8 2 false], c.ci ≠ 0 → c ≠ cand 2 8 2 false →
        (cand 2 8 2 false).x < c.x ∨ ((cand 2 8 2 false).x = c.x ∧ (cand 2 8 2 false).oamIndex < c.oamIndex) := by decide

theorem witness_PpuAdvanceComposes : 5 < (midLine 1 false).now ∧ (midLine 1 false).now ≤ 6 ∧ 6 ≤ 9 := by decide

theorem witness_SpriteListSorted : (oamSearch env Ppu.reset).length = 2 := by decide

/-- A started window before the right edge, and a window disabled on the line before it is requested. -/
theorem witness_PpuTransitionsLegal :
    (∃ q, ppuTransition env { Ppu.reset with now := 2 } = some q) ∧
      ((midLine 3 true).winStarted = true ∧ ppuModeNumber (midLine 3 true).mode = 3 ∧
        ∀ m < 2, (ppuRun env .oamIndex m (midLine 3 true)).xpos < env.lineWidth) ∧
      ((midLine 1 false).lineStart ≤ (midLine 1 false).now ∧ env.windowEnabled (midLine 1 false).writes = true ∧
        env.windowEnabled ((0, 0) :: (midLine 1 false).writes) = false) ∧
      windowSuppressed { midLine 1 false with windowOffAt := some 6 } = true ∧ (midLine 1 false).winRequested = false ∧
        (ppuRun env .oamIndex 3 { midLine 1 false with windowOffAt := some 6 }).lineStart = (midLine 1 false).lineStart :=
  ⟨⟨_, rfl⟩, by decide, by decide, by decide⟩

/-- An id of no register, and one of a register of each kind. -/
theorem witness_RegisterAccess :
    start.params.registerIds.lookup 70 = none ∧ start.params.registerIds.lookup 0 = some (.gpr 0) ∧
      start.params.registerIds.lookup 32 = some .pc ∧ start.params.registerIds.lookup 47 = some (.cop0 12) ∧
      start.params.registerIds.lookup 69 = some .ppuMode := by decide

/-- A run that its STOP ends after one step of two. -/
theorem witness_RunEndsAtStop :
    ∃ t, Safety.runToStop [0x80001004] 2 addu = .next t ∧ Safety.atStop [0x80001004] t = true := ⟨_, rfl, rfl⟩

end Sys2Proof.Tests
end

section
/-!
SUPPORT. What trap entry, MTC0 and a data write do to the registers of coprocessor 0 and to the rest of the state.
-/

namespace Sys2Proof
open Sys2Proof.Machine Sys2Proof.Claims

@[simp] theorem getLsbD_bitIf (b : Bool) (i j : Nat) : (bitIf b i).getLsbD j = (b && decide (j = i) && decide (j < 32)) := by
  cases b
  · simp [bitIf]
  · simp only [bitIf, if_true, BitVec.getLsbD_shiftLeft, BitVec.getLsbD_one]
    grind

/-- Trap entry pushes the 6-bit stack of SR: two zeros come in at the bottom (R381). -/
theorem getLsbD_pushStatus (sr : Word) (i : Nat) :
    (pushStatus sr).getLsbD i = if i < 6 then decide (2 ≤ i) && sr.getLsbD (i - 2) else sr.getLsbD i := by
  rcases Nat.lt_or_ge i 32 with hi | hi
  · simp only [pushStatus, BitVec.getLsbD_or, BitVec.getLsbD_and, BitVec.getLsbD_shiftLeft]
    interval_cases i <;> simp
  · simp [BitVec.getLsbD_of_ge _ _ hi, show ¬i < 6 by omega]

/-- A return from exception pops the stack: bits 5:4 stay (R292). -/
theorem getLsbD_popStatus (sr : Word) (i : Nat) :
    (popStatus sr).getLsbD i = if i < 4 then sr.getLsbD (i + 2) else sr.getLsbD i := by
  rcases Nat.lt_or_ge i 32 with hi | hi
  · simp only [popStatus, BitVec.getLsbD_or, BitVec.getLsbD_and, BitVec.getLsbD_ushiftRight]
    interval_cases i <;> simp
  · simp [BitVec.getLsbD_of_ge _ _ hi, show ¬i < 4 by omega]

/-- Cause after trap entry, bit by bit: the pending bits, ExcCode, CE, BT and BD (R379, R380). -/
theorem getLsbD_trapCause (e : Exc) (ce : BitVec 2) (s : State) (i : Nat) :
    (trapCause e ce s).getLsbD i =
      if 2 ≤ i ∧ i < 7 then (excCode e).getLsbD (i - 2)
      else if 8 ≤ i ∧ i < 16 then s.cause.getLsbD i
      else if 28 ≤ i ∧ i < 30 then ce.getLsbD (i - 28)
      else (decide (i = 30) && s.bt) || (decide (i = 31) && s.bd) := by
  rcases Nat.lt_or_ge i 32 with hi | hi
  · simp only [trapCause, BitVec.getLsbD_or, BitVec.getLsbD_and, BitVec.getLsbD_shiftLeft, BitVec.getLsbD_setWidth, getLsbD_bitIf]
    interval_cases i <;> simp
  · simp [BitVec.getLsbD_of_ge _ _ hi, show ¬i < 7 by omega, show ¬i < 16 by omega, show ¬i < 30 by omega,
      show i ≠ 30 by omega, show i ≠ 31 by omega]

theorem pushStatus_stack (sr : Word) : (pushStatus sr).extractLsb' 0 6 = sr.extractLsb' 0 4 ++ 0#2 := by
  apply BitVec.eq_of_getLsbD_eq
  intro i hi
  simp only [BitVec.getLsbD_extractLsb', BitVec.getLsbD_append, getLsbD_pushStatus]
  interval_cases i <;> simp

theorem pushStatus_other (sr : Word) : (pushStatus sr).extractLsb' 6 26 = sr.extractLsb' 6 26 := by
  apply BitVec.eq_of_getLsbD_eq
  intro i hi
  simp [getLsbD_pushStatus]

/-- The bits that SR reserves lie above its stack. -/
theorem pushStatus_reserved (sr : Word) : pushStatus sr &&& 0x0D8000C0 = sr &&& 0x0D8000C0 := by
  apply BitVec.eq_of_getLsbD_eq
  intro i hi
  simp only [BitVec.getLsbD_and, getLsbD_pushStatus]
  interval_cases i <;> simp

theorem popStatus_reserved (sr : Word) : popStatus sr &&& 0x0D8000C0 = sr &&& 0x0D8000C0 := by
  apply BitVec.eq_of_getLsbD_eq
  intro i hi
  simp only [BitVec.getLsbD_and, getLsbD_popStatus]
  interval_cases i <;> simp

theorem trapCause_excCode (e : Exc) (ce : BitVec 2) (s : State) : (trapCause e ce s).extractLsb' 2 5 = excCode e := by
  apply BitVec.eq_of_getLsbD_eq
  intro i hi
  simp [getLsbD_trapCause, hi, show 2 + i < 7 by omega]

theorem trapCause_ip (e : Exc) (ce : BitVec 2) (s : State) : (trapCause e ce s).extractLsb' 8 8 = s.cause.extractLsb' 8 8 := by
  apply BitVec.eq_of_getLsbD_eq
  intro i hi
  simp [getLsbD_trapCause, hi, show ¬8 + i < 7 by omega, show 8 + i < 16 by omega]

theorem trapCause_ce (e : Exc) (ce : BitVec 2) (s : State) : (trapCause e ce s).extractLsb' 28 2 = ce := by
  apply BitVec.eq_of_getLsbD_eq
  intro i hi
  simp [getLsbD_trapCause, hi, show ¬28 + i < 7 by omega, show ¬28 + i < 16 by omega, show 28 + i < 30 by omega]

theorem trapCause_reserved (e : Exc) (ce : BitVec 2) (s : State) : trapCause e ce s &&& 0x0FFF0083 = 0 := by
  apply BitVec.eq_of_getLsbD_eq
  intro i hi
  simp only [BitVec.getLsbD_and, getLsbD_trapCause]
  interval_cases i <;> simp

/-! ## Taking an exception -/

/-- The address an exception offers BadVaddr: only the address errors have one (R378). -/
def offending (e : Exc) : Option Word :=
  match e with
  | .adEL a => some a
  | .adES a => some a
  | _ => none

theorem excBadVaddr_eq (e : Exc) (old : Word) : excBadVaddr e old = (offending e).getD old := by
  cases e <;> rfl

theorem trapEntry_commits (s : State) (e : Exc) (ce : BitVec 2) : Commits s (s.trapEntry e ce) where
  regs := commitLoad_reg s
  ld := rfl

/-- Everything trap entry writes, for every cause (R376 to R382). -/
theorem trapEntry_writes (s : State) (e : Exc) (ce : BitVec 2) :
    TrapWrites s (s.trapEntry e ce) (excCode e) ce (offending e) where
  toCommits := trapEntry_commits s e ce
  badVaddr := excBadVaddr_eq e s.badVaddr
  epc := rfl
  tar := rfl
  excCode := trapCause_excCode e ce s
  causeCe := trapCause_ce e ce s
  causeBd := (getLsbD_trapCause e ce s 31).trans (by simp)
  causeBt := (getLsbD_trapCause e ce s 30).trans (by simp)
  causeIp := trapCause_ip e ce s
  causeOther := trapCause_reserved e ce s
  stack := pushStatus_stack s.sr
  srOther := pushStatus_other s.sr
  pc := rfl
  npc := rfl
  bd := rfl
  bt := rfl

/-- Trap entry writes that and nothing else. -/
theorem trapEntry_traps (s : State) (e : Exc) (ce : BitVec 2) :
    Traps s (s.trapEntry e ce) (excCode e) ce (offending e) :=
  ⟨trapEntry_writes s e ce, ⟨rfl, rfl⟩, ⟨rfl, rfl, rfl, rfl, rfl, rfl⟩, ⟨rfl, fun _ => rfl⟩, ⟨fun _ => rfl, fun _ => rfl⟩,
    ⟨rfl, rfl, rfl, rfl, rfl⟩, rfl⟩

/-! ## MTC0's write -/

/-- MTC0 writes no bit of Cause but the two software interrupt bits (R32). -/
theorem cop0Write_cause_and {m : Word} (hm : m &&& causeWriteMask = 0) (s : State) (n : RegNum) (v : Word) :
    (s.cop0Write n v).cause &&& m = s.cause &&& m := by
  rw [cop0Write_cause]
  split_ifs
  · apply BitVec.eq_of_getLsbD_eq
    intro i hi
    have hb : (m.getLsbD i && causeWriteMask.getLsbD i) = false := by simpa using congrArg (fun x => x.getLsbD i) hm
    simp only [BitVec.getLsbD_or, BitVec.getLsbD_and, BitVec.getLsbD_not]
    grind
  · rfl

/-- Cause as MTC0 leaves it, field by field (R32). -/
theorem mtc0Cause_fields (c v : Word) :
    (c &&& ~~~causeWriteMask) ||| (v &&& causeWriteMask) = c.extractLsb' 10 22 ++ v.extractLsb' 8 2 ++ c.extractLsb' 0 8 := by
  apply BitVec.eq_of_getLsbD_eq
  intro i hi
  simp only [causeWriteMask, BitVec.getLsbD_extractLsb', BitVec.getLsbD_or, BitVec.getLsbD_and, BitVec.getLsbD_append]
  interval_cases i <;> simp

theorem and_and_eq_zero {m r : Word} (hm : m &&& r = 0) (v : Word) : v &&& m &&& r = 0 := by
  rw [BitVec.and_assoc, hm]; exact BitVec.and_zero

theorem cop0Write_sr_reserved {s : State} (n : RegNum) (v : Word) (h : s.sr &&& 0x0D8000C0 = 0) :
    (s.cop0Write n v).sr &&& 0x0D8000C0 = 0 := by
  rw [cop0Write_sr]
  split_ifs
  · exact and_and_eq_zero (by decide) v
  · exact h

theorem cop0Write_dcic_reserved {s : State} (n : RegNum) (v : Word) (h : s.dcic &&& 0x007FFFC0 = 0) :
    (s.cop0Write n v).dcic &&& 0x007FFFC0 = 0 := by
  rw [cop0Write_dcic]
  split_ifs
  · exact and_and_eq_zero (by decide) v
  · exact h

/-! ## Data writes -/

/-- What a completed store leaves alone, wherever its data went (R262). -/
theorem memWrite_storeFrame {a : Word} {n : Nat} {v : Word} {s s' : State} (h : memWrite a n v s.commitLoad = .ok s') :
    StoreFrame s s'.advance := by
  rcases memWrite_cases h with rfl | rfl | rfl | rfl <;>
    exact ⟨⟨commitLoad_reg s, rfl⟩, ⟨rfl, rfl, rfl, rfl⟩, ⟨rfl, rfl⟩, ⟨rfl, rfl, rfl, rfl, rfl, rfl⟩, ⟨rfl, rfl, rfl, rfl, rfl⟩,
      ⟨rfl, rfl, rfl, rfl, rfl⟩⟩

end Sys2Proof
end

section
/-!
SUPPORT. The exception registers and HI and LO over all instructions.
-/

namespace Sys2Proof
open Sys2Proof.Machine Sys2Proof.Claims

/-- Settles O47, by the inversion of `exec`: a trap writes all that trap entry writes; of the rest only MTC0 writes Cause, under
its mask. -/
theorem onlyTrapsWriteExceptionRegisters : Obligations.OnlyTrapsWriteExceptionRegisters := by
  intro i s t h
  cases exec_did h with
  | trap e _ => exact .inr ⟨_, _, trapEntry_writes s e _⟩
  | result | hiLo | nothing | branched | linked | loaded | asked | returned => exact .inl ⟨rfl, rfl, rfl, rfl⟩
  | movedToCop0 n v =>
    exact .inl ⟨rfl, rfl, rfl, cop0Write_cause_and (by decide) s.commitLoad n v⟩
  | stored a n v ev s' _ _ hw =>
    obtain ⟨-, -, -, -, ⟨-, hcause, hepc, hbad, htar⟩, -⟩ := memWrite_storeFrame hw
    exact .inl ⟨hepc, hbad, htar, congrArg (· &&& 0xFFFFFCFF) hcause⟩

/-- Settles O22, by the inversion of `exec`: the one outcome that writes HI and LO belongs to the six. -/
theorem onlyMulDivWriteHiLo : Obligations.OnlyMulDivWriteHiLo := by
  intro i s t hi h
  cases exec_did h with
  | hiLo _ _ hw => exact absurd hw (by simp [hi])
  | stored a n v ev s' _ _ hw =>
    obtain ⟨-, -, ⟨hhi, hlo⟩, -⟩ := memWrite_storeFrame hw
    exact ⟨hhi, hlo⟩
  | trap | result | nothing | branched | linked | loaded | asked | movedToCop0 | returned => exact ⟨rfl, rfl⟩

end Sys2Proof
end

section
/-!
SUPPORT. The invariant of the machine, kept by each operation and so by every step.
-/

namespace Sys2Proof
open Sys2Proof.Machine Sys2Proof.Claims

/-! ## The instruction cache and its poison bit (R43, R81) -/

/-- A cache in canonical form whose TV words all have bit 0 equal to `poison`. -/
structure CacheInv (c : ICache) (poison : Bool) : Prop where
  wf : c.wf
  bit : ∀ i, (c.read i).tv.getLsbD 0 = poison

theorem CacheInv.write {c : ICache} {poison : Bool} (h : CacheInv c poison) (i : BitVec 10) {e : IcEntry}
    (he : e.tv.getLsbD 0 = poison) : CacheInv (c.write i e) poison where
  wf := ICache.write_wf h.wf i e
  bit j := by
    rw [ICache.read_write]
    split_ifs
    · exact he
    · exact h.bit j

theorem CacheInv.mapTv {c : ICache} (h : c.wf) {f : Word → Word} {poison : Bool} (hf : ∀ w, (f w).getLsbD 0 = poison) :
    CacheInv (c.mapTv f) poison where
  wf := ICache.mapTv_wf h f
  bit i := by rw [ICache.read_mapTv h]; exact hf _

theorem CacheInv.invalidateLine {c : ICache} (h : CacheInv c false) (a : Word) : CacheInv (invalidateLine a c) false :=
  List.foldlRecOn (motive := (CacheInv · false)) _ _ h fun _ hc _ _ =>
    hc.write _ (show (2#32).getLsbD 0 = false by decide)

/-- The address of a word in a line, which a refill writes as its TV word, is even. -/
theorem lineWord_bit0 (pc : Word) (k : BitVec 2) : (lineWord pc k).getLsbD 0 = false := by
  simp [lineWord, lineBase]

theorem CacheInv.markLine {c : ICache} (h : CacheInv c false) (pc : Word) : CacheInv (markLine pc c) false :=
  List.foldlRecOn (motive := (CacheInv · false)) _ _ h fun _ hc k _ => hc.write _ (by
    rw [BitVec.getLsbD_or, lineWord_bit0]; decide)

theorem CacheInv.loadLine {pc : Word} {s : State} {ks : List (BitVec 2)} {c c' : ICache} (h : CacheInv c false)
    (hl : loadLine pc s ks c = .ok c') : CacheInv c' false := by
  induction ks generalizing c with
  | nil => cases hl; exact h
  | cons k ks ih =>
    rw [Machine.loadLine] at hl
    split at hl
    · cases hl
    · exact ih (h.write _ (lineWord_bit0 pc k)) hl

theorem CacheInv.refill {pc : Word} {s : State} {c : ICache} (h : CacheInv s.ic false) (hr : refill pc s = .ok c) :
    CacheInv c false := (h.markLine pc).loadLine hr

/-- An isolated store marks lines invalid or changes data, and only while the cache is enabled (R73). -/
theorem CacheInv.isolatedCache {s : State} (h : CacheInv s.ic (!s.biuIs1)) (a v : Word) :
    CacheInv (isolatedCache a v s) (!s.biuIs1) := by
  unfold Machine.isolatedCache
  split_ifs with hon
  · rw [hon] at h ⊢; exact h.invalidateLine a
  · exact h.write _ (h.bit _)
  · exact h
  · exact h

theorem biuWrite_is1 (s : State) (v : Word) : (s.biuWrite v).biuIs1 = v.getLsbD 11 := by
  simp only [State.biuIs1, biuWrite_biu, BitVec.getLsbD_and]
  simp

/-- The three things a write of BIU can do to the cache (R41). -/
theorem biuWrite_ic (s : State) (v : Word) :
    (s.biuWrite v).ic =
      if s.biuIs1 = v.getLsbD 11 then s.ic
      else if v.getLsbD 11 then s.ic.mapTv (fun tv => tv &&& ~~~1#32)
      else s.ic.mapTv (fun tv => tv ||| 1) := by
  simp [State.biuWrite, State.biuIs1]

theorem CacheInv.biuWrite {s : State} (h : CacheInv s.ic (!s.biuIs1)) (v : Word) :
    CacheInv (s.biuWrite v).ic (!(s.biuWrite v).biuIs1) := by
  rw [biuWrite_is1, biuWrite_ic]
  split_ifs with hsame hon
  · rwa [← hsame]
  · exact .mapTv h.wf fun w => by rw [hon]; simp
  · exact .mapTv h.wf fun w => by rw [Bool.eq_false_of_not_eq_true hon]; simp

/-! ## What a step is made of -/

/-- A fetch changes nothing, or it has refilled a line, which needs an enabled cache (R80). -/
theorem iFetch_cases {s s' : State} {w : Word} (h : iFetch s = .ok (w, s')) :
    s' = s ∨ ∃ c, s.biuIs1 = true ∧ refill s.pc s = .ok c ∧ s' = { s with ic := c } := by
  unfold iFetch at h
  dsimp only at h
  split_ifs at h with hhit hcached
  · cases h; exact .inl rfl
  · split at h
    · cases h
    · rename_i c hc
      cases h
      have hon : s.biuIs1 = true := by simp only [State.fetchCached, Bool.and_eq_true] at hcached; exact hcached.2
      exact .inr ⟨c, hon, hc, rfl⟩
  · split at h <;> cases h
    exact .inl rfl

/-- Steps 3 to 7 take an address error, or fetch a word and then take an interrupt or execute it (R130). -/
theorem fetchAndDispatch_cases {s t : State} (h : fetchAndDispatch s = .next t) :
    (s.fetchFault = true ∧ t = s.trapEntry (.adEL s.pc) 0) ∨
      ∃ w s', s.fetchFault = false ∧ iFetch s = .ok (w, s') ∧
        ((s'.intPending = true ∧ t = s'.trapEntry .int (ceField w)) ∨
          (s'.intPending = false ∧ exec (decode w) s' = .next t)) := by
  unfold fetchAndDispatch at h
  split at h
  · rename_i hf
    cases h
    exact .inl ⟨hf, rfl⟩
  · rename_i hf
    split at h
    · cases h
    · rename_i w s' hw
      refine .inr ⟨w, s', by simpa using hf, hw, ?_⟩
      unfold dispatch takeInterrupt at h
      split_ifs at h with hi
      · cases h; exact .inl ⟨hi, rfl⟩
      · exact .inr ⟨by simpa using hi, h⟩

/-! ## Every operation keeps the invariant -/

theorem committedRegs_slot0 (s : State) : (committedRegs s)[0] = s.regs[0] := by
  unfold committedRegs
  split
  · rfl
  · exact writeRegs_slot0 ..

theorem committedRegsUnlessTo_slot0 (s : State) (r : RegNum) : (committedRegsUnlessTo s r)[0] = s.regs[0] := by
  unfold committedRegsUnlessTo
  split
  · rfl
  · split_ifs
    · rfl
    · exact writeRegs_slot0 ..

section
variable {s : State} (h : Safety.Inv s)
include h

theorem Safety.Inv.cache : CacheInv s.ic (!s.biuIs1) := ⟨h.ic_wf, h.cache_poison⟩

theorem Safety.Inv.withCache {c : ICache} (hc : CacheInv c (!s.biuIs1)) : Safety.Inv { s with ic := c } :=
  { h with cache_poison := hc.bit, ic_wf := hc.wf }

theorem Safety.Inv.withHiLo (hi lo : Word) : Safety.Inv { s with hi := hi, lo := lo } := { h with }

theorem Safety.Inv.withEvents (ev : List Event) : Safety.Inv { s with events := ev } := { h with }

theorem Safety.Inv.tick : Safety.Inv s.tick := { h with }

theorem Safety.Inv.zeroR0 : Safety.Inv s.zeroR0 := { h with r0_zero := Vector.getElem_set_self .. }

theorem Safety.Inv.setReg (r : RegNum) (v : Word) : Safety.Inv (s.setReg r v) :=
  { h with r0_zero := (writeRegs_slot0 ..).trans h.r0_zero }

theorem Safety.Inv.commitLoad : Safety.Inv s.commitLoad := { h with r0_zero := (committedRegs_slot0 s).trans h.r0_zero }

theorem Safety.Inv.loadDelayed (r : RegNum) (v : Word) : Safety.Inv (s.loadDelayed r v) :=
  { h with r0_zero := (committedRegsUnlessTo_slot0 s r).trans h.r0_zero }

theorem Safety.Inv.advance : Safety.Inv s.advance :=
  { h with npc_follows := fun _ => rfl, bt_in_slot := fun _ => rfl }

theorem Safety.Inv.delayBranch (c : Bool) (a : Word) : Safety.Inv (s.delayBranch c a) :=
  { h with
    npc_follows := fun hc => if_neg (by simpa using hc)
    bt_in_slot := fun hb => nomatch hb }

theorem Safety.Inv.trapEntry (e : Exc) (ce : BitVec 2) : Safety.Inv (s.trapEntry e ce) :=
  { h with
    r0_zero := (committedRegs_slot0 s).trans h.r0_zero
    npc_follows := fun _ => rfl
    bt_in_slot := fun _ => rfl
    sr_reserved := (pushStatus_reserved s.sr).trans h.sr_reserved
    cause_reserved := trapCause_reserved e ce s }

theorem Safety.Inv.returnFromException : Safety.Inv s.returnFromException :=
  { h with sr_reserved := (popStatus_reserved s.sr).trans h.sr_reserved }

theorem Safety.Inv.cop0Write (n : RegNum) (v : Word) : Safety.Inv (s.cop0Write n v) :=
  { h with
    sr_reserved := cop0Write_sr_reserved n v h.sr_reserved
    cause_reserved := (cop0Write_cause_and (by decide) s n v).trans h.cause_reserved
    dcic_reserved := cop0Write_dcic_reserved n v h.dcic_reserved }

theorem Safety.Inv.biuWrite (v : Word) : Safety.Inv (s.biuWrite v) :=
  { h with
    biu_reserved := and_and_eq_zero (by decide) v
    cache_poison := (h.cache.biuWrite v).bit
    ic_wf := (h.cache.biuWrite v).wf }

/-- A data write keeps the invariant whatever it reaches (R72). -/
theorem Safety.Inv.memWrite {a : Word} {n : Nat} {v : Word} {s' : State} (hw : memWrite a n v s = .ok s') :
    Safety.Inv s' := by
  obtain ⟨hmem, hscratch, hic⟩ := memWrite_wf hw h.mem_wf h.scratch_wf h.ic_wf
  rcases memWrite_cases hw with rfl | rfl | rfl | rfl
  · exact { h with cache_poison := (h.cache.isolatedCache a _).bit, ic_wf := hic, scratch_wf := hscratch }
  · exact { h with scratch_wf := hscratch }
  · exact h.biuWrite v
  · exact { h with mem_wf := hmem }

theorem Safety.Inv.exec {i : Instr} {t : State} (hx : exec i s = .next t) : Safety.Inv t := by
  cases exec_did hx with
  | trap e _ => exact h.trapEntry e _
  | result r v => exact (h.commitLoad.setReg r v).advance
  | hiLo hi lo => exact (h.commitLoad.withHiLo hi lo).advance
  | nothing => exact h.commitLoad.advance
  | branched c a => exact h.commitLoad.delayBranch c a
  | linked r c a => exact (h.commitLoad.setReg r (linkValue s.pc)).delayBranch c a
  | loaded r v ev => exact ((h.withEvents ev).loadDelayed r v).advance
  | stored a n v ev s' _ _ hw => exact ((h.withEvents ev).commitLoad.memWrite hw).advance
  | asked ev => exact (h.commitLoad.withEvents ev).advance
  | movedToCop0 n v => exact (h.commitLoad.cop0Write n v).advance
  | returned => exact h.commitLoad.returnFromException.advance

theorem Safety.Inv.iFetch {w : Word} {s' : State} (hf : iFetch s = .ok (w, s')) : Safety.Inv s' := by
  rcases iFetch_cases hf with rfl | ⟨c, hon, hc, rfl⟩
  · exact h
  · have hcache := h.cache
    rw [hon] at hcache
    exact h.withCache (by rw [hon]; exact hcache.refill hc)

theorem Safety.Inv.fetchAndDispatch {t : State} (hx : fetchAndDispatch s = .next t) : Safety.Inv t := by
  rcases fetchAndDispatch_cases hx with ⟨-, rfl⟩ | ⟨w, s', -, hf, ⟨-, rfl⟩ | ⟨-, hx⟩⟩
  · exact h.trapEntry _ _
  · exact (h.iFetch hf).trapEntry _ _
  · exact (h.iFetch hf).exec hx

end

/-- Settles O53: the r0 re-zero, the fetch, the trap or the instruction, and the clock each keep the invariant. -/
theorem stepKeepsInv : Obligations.StepKeepsInv := by
  intro s t h hs
  obtain ⟨u, hu, rfl⟩ := step_next hs
  exact (h.zeroR0.fetchAndDispatch hu).tick

end Sys2Proof
end

section
/-!
SUPPORT. The stores of a word to BIU, and MTC0.
-/

namespace Sys2Proof
open Sys2Proof.Machine Sys2Proof.Claims

/-! ## Stores of a word to BIU (R41) -/

/-- An aligned store at an address R64 allows goes on to its write (R260). -/
theorem checkStore_passes {w : Nat} {a : Word} {s : State} (hm : misaligned w a = false) (ha : allowed s a = true)
    (op : Opcode) (k : Out) : checkStore op w a s k = k := by
  have hk : s.ksegFault a = false := (Bool.not_eq_true' _).mp ha
  simp [checkStore, hm, hk]

theorem biuWrite_takes {s : State} (h : s.ic.wf) (v : Word) : BiuTakes s (s.biuWrite v) v where
  biu := rfl
  unswitched hsame i := by
    have hs : s.biuIs1 = v.getLsbD 11 := hsame.symm.trans (biuWrite_is1 s v)
    rw [biuWrite_ic, if_pos hs]
  enabled hnew hold i := by
    have hv : v.getLsbD 11 = true := (biuWrite_is1 s v).symm.trans hnew
    have hs : s.biuIs1 = false := hold
    rw [biuWrite_ic, hv, hs, if_neg Bool.false_ne_true, if_pos rfl, ICache.read_mapTv h]
    rfl
  disabled hnew hold i := by
    have hv : v.getLsbD 11 = false := (biuWrite_is1 s v).symm.trans hnew
    have hs : s.biuIs1 = true := hold
    rw [biuWrite_ic, hv, hs, if_neg Bool.false_ne_true.symm, if_neg Bool.false_ne_true, ICache.read_mapTv h]

/-- A word stored at the physical address of BIU, by whatever instruction, writes BIU and no memory. -/
theorem storeTo_biu {s : State} (hic : s.ic.wf) (hisc : s.isc = false) {a : Word} (ha : phys a = biuAddress) (v : Word) :
    ∃ t, storeTo a 4 v s = .next t ∧ StoreFrame s t ∧ SameMemory s t ∧ t.events = s.events ∧ BiuTakes s t v := by
  have hw : memWrite a 4 v s.commitLoad = .ok (s.commitLoad.biuWrite v) := memWrite_biu (s := s.commitLoad) hisc ha v
  refine ⟨(s.commitLoad.biuWrite v).advance, by rw [storeTo, hw], memWrite_storeFrame hw, ⟨fun _ => rfl, fun _ => rfl⟩, rfl, ?_⟩
  exact { biuWrite_takes (s := s.commitLoad) hic v with }

theorem phys_biuPhys : phys biuPhys = biuAddress := phys_of_low (by decide) (by decide)

section
variable {s : State} {rt rs : RegNum} {imm : BitVec 16} (hk : allowed s (address s rs imm) = true)
include hk

theorem exec_sw_biu (ha : address s rs imm = biuPhys) : exec (.sw rt rs imm) s = storeTo biuPhys 4 (s.reg rt) s := by
  refine (checkStore_passes (w := 4) (by rw [ha]; decide) hk _ _).trans ?_
  rw [show effectiveAddress rs imm s = biuPhys from ha]

theorem exec_swr_biu (ha : address s rs imm = biuPhys) : exec (.swr rt rs imm) s = storeTo biuPhys 4 (s.reg rt) s := by
  refine (checkStore_passes (w := 1) rfl hk _ _).trans ?_
  rw [show effectiveAddress rs imm s = biuPhys from ha]
  rfl

theorem exec_swl_biu (ha : address s rs imm = biuPhys + 3) : exec (.swl rt rs imm) s = storeTo biuPhys 4 (s.reg rt) s := by
  refine (checkStore_passes (w := 1) rfl hk _ _).trans ?_
  rw [show effectiveAddress rs imm s = biuPhys + 3 from ha]
  rfl

end

/-- Settles O31: each of the three forms is the store of the whole of x[rt] at BIU's address. -/
theorem biuStores : Obligations.BiuStores := by
  intro s rt rs imm hic hisc hk x hx ha
  have key := storeTo_biu hic (Bool.eq_false_of_not_eq_true hisc) phys_biuPhys (s.reg rt)
  rcases List.mem_cons.1 hx with rfl | hx
  · rwa [exec_sw_biu hk ha]
  rcases List.mem_cons.1 hx with rfl | hx
  · rwa [exec_swr_biu hk ha]
  · obtain rfl := List.mem_singleton.1 hx
    rwa [exec_swl_biu hk ha]

/-! ## MTC0 (R291) -/

/-- A field that lies inside `mask` does not see what stands in the bits outside it (R116). -/
theorem extractLsb'_or_outside {mask : Word} {lo n : Nat} (h : mask.extractLsb' lo n = BitVec.allOnes n) (w junk : Word) :
    (w ||| (junk &&& ~~~mask)).extractLsb' lo n = w.extractLsb' lo n := by
  apply BitVec.eq_of_getLsbD_eq
  intro i hi
  have hm : mask.getLsbD (lo + i) = true := by simpa [hi] using congrArg (fun x => x.getLsbD i) h
  simp [hi, hm]

theorem decode_mtc0 {w : Word} (hop : opField w = Op.cop0) (hrs : rsField w = 4) :
    decode w = .mtc0 (rtField w) (rdField w) := by
  simp [decode, decodeCop0, hop, hrs]

theorem ignoresTheRest_mtc0 (rt rd : RegNum) : ignoresTheRest (.mtc0 rt rd) := by
  intro junk
  have hused : usedBits (.mtc0 rt rd) = 0xFFFFF800 := show (0xFFE00000 ||| 0x001FF800 : Word) = 0xFFFFF800 by decide
  have field {n : Nat} (lo : Nat) (h : (0xFFFFF800#32).extractLsb' lo n = BitVec.allOnes n) :=
    extractLsb'_or_outside h (encode (.mtc0 rt rd)) junk
  rw [hused]
  have hop := (field (n := 6) 26 (by decide)).trans (opField_rWord ..)
  have hrs := (field (n := 5) 21 (by decide)).trans (rsField_rWord ..)
  have hrt := (field (n := 5) 16 (by decide)).trans (rtField_rWord ..)
  have hrd := (field (n := 5) 11 (by decide)).trans (rdField_rWord ..)
  exact (decode_mtc0 hop hrs).trans (congrArg₂ Instr.mtc0 hrt hrd)

theorem cop0Usable_eq (s : State) : cop0Usable s = s.copUsable 0 := rfl

/-- A coprocessor-0 instruction takes CpU where the coprocessor is not usable, and else does what `k` says (R293). -/
theorem needsCop0_of_requireCop {s : State} {i : Instr} {k : Out} {P : Prop} (hi : exec i s = requireCop 0 Op.cop0 s k)
    (hk : exec i s = k → P) : NeedsCop0 s i P := by
  constructor
  · intro hu
    rw [cop0Usable_eq] at hu
    exact hk (hi.trans (requireCop_usable hu _ _))
  · intro hu
    rw [cop0Usable_eq] at hu
    exact ⟨_, hi.trans (requireCop_unusable hu _ _), trapEntry_traps s .cpU 0⟩

/-- Settles O38: the word is in MTC0's row, and its meaning writes the registers in one record update. -/
theorem mtc0Writes : Obligations.Mtc0Writes := by
  intro s rt rd
  refine ⟨⟨Laws.EncodeMatchesRow.mtc0 rt rd, ignoresTheRest_mtc0 rt rd⟩, needsCop0_of_requireCop rfl fun h => ?_⟩
  refine ⟨_, h, ⟨commitLoad_reg s, rfl⟩, ⟨rfl, rfl, rfl, rfl⟩, ⟨rfl, rfl⟩, ⟨rfl, fun _ => rfl⟩, ⟨fun _ => rfl, fun _ => rfl⟩,
    ⟨rfl, rfl, rfl, rfl, rfl⟩, rfl, rfl, rfl, rfl, rfl, rfl, rfl, ?_, rfl, rfl, rfl, rfl⟩
  rw [← mtc0Cause_fields]
  rfl

end Sys2Proof
end

section
/-!
SUPPORT. Physical addresses, the fetch and its refill, and what a load sees of a store.
-/

namespace Sys2Proof
open Sys2Proof.Machine Sys2Proof.Claims

/-! ## Physical addresses (R62) -/

theorem segment_toNat (a : Word) : (a.extractLsb' 29 3).toNat = a.toNat / 0x20000000 := by
  rw [BitVec.extractLsb'_toNat, Nat.shiftRight_eq_div_pow]
  omega

/-- KUSEG and KSEG2 pass unchanged. -/
theorem phys_eq_self {a : Word} (h : a.toNat < 0x80000000 ∨ 0xC0000000 ≤ a.toNat) : phys a = a := by
  have hs := segment_toNat a
  refine phys_of_low (fun h4 => ?_) (fun h5 => ?_)
  · rw [h4, BitVec.toNat_ofNat] at hs; omega
  · rw [h5, BitVec.toNat_ofNat] at hs; omega

theorem phys_kseg0 {a : Word} (h : 0x80000000 ≤ a.toNat) (h' : a.toNat < 0xA0000000) :
    (phys a).toNat = a.toNat - 0x80000000 := by
  have hs : a.extractLsb' 29 3 = 4#3 := BitVec.eq_of_toNat_eq (by rw [segment_toNat, BitVec.toNat_ofNat]; omega)
  have hand : (a &&& 0x7FFFFFFF).toNat = a.toNat % 2 ^ 31 := Nat.and_two_pow_sub_one_eq_mod a.toNat 31
  simp only [phys, hs, hand]
  omega

theorem phys_kseg1 {a : Word} (h : 0xA0000000 ≤ a.toNat) (h' : a.toNat < 0xC0000000) :
    (phys a).toNat = a.toNat - 0xA0000000 := by
  have hs : a.extractLsb' 29 3 = 5#3 := BitVec.eq_of_toNat_eq (by rw [segment_toNat, BitVec.toNat_ofNat]; omega)
  have hand : (a &&& 0x1FFFFFFF).toNat = a.toNat % 2 ^ 29 := Nat.and_two_pow_sub_one_eq_mod a.toNat 29
  simp only [phys, hs, hand]
  omega

/-- Settles O11, segment by segment. -/
theorem physicalAddresses : Obligations.PhysicalAddresses := fun _ =>
  ⟨fun h => phys_eq_self (.inl h), phys_kseg0, phys_kseg1, fun h => phys_eq_self (.inr h)⟩

/-! ## Words of memory (R69, R71) -/

theorem extractLsb'_low2_toNat (a : Word) : (a.extractLsb' 0 2).toNat = a.toNat % 4 := by
  simp [BitVec.extractLsb'_toNat]

theorem low2_eq_zero_of_aligned {a : Word} (h : aligned 4 a = true) : a.extractLsb' 0 2 = 0#2 :=
  BitVec.eq_of_toNat_eq ((extractLsb'_low2_toNat a).trans (by simpa [aligned] using h))

/-- A little-endian read of an aligned word, whose bytes do not wrap around the address space. -/
theorem readLE_four_eq_memWord (s : State) {p : Word} (h : p.extractLsb' 0 2 = 0#2) : s.mem.readLE p 4 = memWord s p := by
  have hp : p.toNat % 4 = 0 := by rw [← extractLsb'_low2_toNat, h]; rfl
  have step {k : Nat} (hk : k < 4) : (p + BitVec.ofNat 32 k).toNat = p.toNat + k := by
    rw [BitVec.toNat_add, BitVec.toNat_ofNat]; omega
  apply BitVec.eq_of_getLsbD_eq
  intro i hi
  have hk : i / 8 < 4 := by omega
  rw [Memory.getLsbD_readLE, step hk]
  simp only [memWord, BitVec.getLsbD_append]
  interval_cases i <;> simp

/-! ## A fetch without a refill (R80, R82, R84, R85) -/

theorem iFetch_hit {s : State} (h : (fetchEntry s).tv = s.pc) : iFetch s = .ok ((fetchEntry s).data, s) := if_pos h

theorem iFetch32_of_canFetch {s : State} {p : Word} (h : canFetch s p = true) : iFetch32 p s = .ok (s.mem.readLE p 4) :=
  if_pos h

theorem iFetch32_refused {s : State} {p : Word} (h : canFetch s p = false) : iFetch32 p s = .error .fetchNotFetchable :=
  if_neg (Bool.eq_false_iff.1 h)

/-- A miss that is not cached answers what memory answers, and changes nothing. -/
theorem iFetch_uncached {s : State} {w : Word} (h : (fetchEntry s).tv ≠ s.pc) (hc : cachedFetch s = false)
    (hw : iFetch32 (phys s.pc) s = .ok w) : iFetch s = .ok (w, s) := by
  refine (if_neg h).trans ((if_neg (Bool.eq_false_iff.1 hc)).trans ?_)
  rw [hw]

theorem iFetch_uncached_refused {s : State} {r : Refusal} (h : (fetchEntry s).tv ≠ s.pc) (hc : cachedFetch s = false)
    (hr : iFetch32 (phys s.pc) s = .error r) : iFetch s = .error r := by
  refine (if_neg h).trans ((if_neg (Bool.eq_false_iff.1 hc)).trans ?_)
  rw [hr]

/-- Settles O12: the three ways a fetch goes on without a refill. -/
theorem fetchWithoutRefill : Obligations.FetchWithoutRefill := by
  refine fun s => ⟨iFetch_hit, fun hal hmiss hc hf => ?_, fun hmiss hc hf => ?_⟩
  · have hword : (phys s.pc).extractLsb' 0 2 = 0#2 := (phys_low s.pc 2 (by omega)).trans (low2_eq_zero_of_aligned hal)
    rw [← readLE_four_eq_memWord s hword]
    exact iFetch_uncached hmiss hc (iFetch32_of_canFetch hf)
  · exact iFetch_uncached_refused hmiss hc (iFetch32_refused hf)

/-! ## The line of an address (R42, R80) -/

/-- A cache index is a line's number and the number of a word in the line. -/
theorem eq_icLineIndex_iff (i : BitVec 10) (a : Word) (k : BitVec 2) :
    i = icLineIndex a k ↔ i.extractLsb' 2 8 = a.extractLsb' 4 8 ∧ i.extractLsb' 0 2 = k := by
  have hline : (icLineIndex a k).extractLsb' 2 8 = a.extractLsb' 4 8 := BitVec.extractLsb'_append_eq_left
  have hword : (icLineIndex a k).extractLsb' 0 2 = k := BitVec.extractLsb'_append_eq_right
  constructor
  · rintro rfl
    exact ⟨hline, hword⟩
  · rintro ⟨hl, hw⟩
    have hsplit : i.extractLsb' 2 8 ++ i.extractLsb' 0 2 = i :=
      (BitVec.extractLsb'_append_extractLsb'_eq_extractLsb' rfl).trans BitVec.extractLsb'_eq_self
    rw [← hsplit, hl, hw]
    rfl

/-- The entry of an address is the one of its own word in its line. -/
theorem icIndex_eq_icLineIndex (a : Word) : icIndex a = icLineIndex a (a.extractLsb' 2 2) :=
  (BitVec.extractLsb'_append_extractLsb'_eq_extractLsb' (start₁ := 2) (len₁ := 2) (len₂ := 8) rfl).symm

/-- The cache with the words `ks` of the line of `a` rewritten by `f`, in order. -/
def rewriteLine (a : Word) (f : BitVec 2 → IcEntry → IcEntry) (ks : List (BitVec 2)) (c : ICache) : ICache :=
  ks.foldl (fun c k => c.write (icLineIndex a k) (f k (c.read (icLineIndex a k)))) c

/-- Each of the words is rewritten once, and no other entry. -/
theorem read_rewriteLine (a : Word) (f : BitVec 2 → IcEntry → IcEntry) {ks : List (BitVec 2)} (hks : ks.Nodup) (c : ICache)
    (i : BitVec 10) :
    (rewriteLine a f ks c).read i =
      if i.extractLsb' 2 8 = a.extractLsb' 4 8 ∧ i.extractLsb' 0 2 ∈ ks then f (i.extractLsb' 0 2) (c.read i)
      else c.read i := by
  induction ks generalizing c with
  | nil => simp [rewriteLine]
  | cons k ks ih =>
    obtain ⟨hk, hks⟩ := List.nodup_cons.1 hks
    refine (ih hks _).trans ?_
    by_cases hi : i = icLineIndex a k
    · obtain ⟨hline, hword⟩ := (eq_icLineIndex_iff i a k).1 hi
      simp [hline, hword, hk, ICache.read_write, ← hi]
    · have hne : i.extractLsb' 2 8 = a.extractLsb' 4 8 → i.extractLsb' 0 2 ≠ k := fun hl hw =>
        hi ((eq_icLineIndex_iff i a k).2 ⟨hl, hw⟩)
      rw [ICache.read_write, if_neg hi]
      refine if_congr (and_congr_right fun hl => ?_) rfl rfl
      simp [hne hl]

theorem lineWord_eq (pc : Word) (k : BitVec 2) : lineWord pc k = pc.extractLsb' 4 28 ++ k ++ 0#2 := by
  apply BitVec.eq_of_getLsbD_eq
  intro j hj
  simp only [lineWord, lineBase, BitVec.getLsbD_or, BitVec.getLsbD_and, BitVec.getLsbD_shiftLeft, BitVec.getLsbD_setWidth,
    BitVec.getLsbD_append, BitVec.getLsbD_extractLsb']
  interval_cases j <;> simp

/-- The tag of an entry marked invalid (R80, R83). -/
theorem lineWord_or_two (pc : Word) (k : BitVec 2) : lineWord pc k ||| 2 = pc.extractLsb' 4 28 ++ k ++ 2#2 := by
  rw [lineWord_eq]
  apply BitVec.eq_of_getLsbD_eq
  intro j hj
  simp only [BitVec.getLsbD_or, BitVec.getLsbD_append]
  interval_cases j <;> simp

/-! ## A refill (R80, R83) -/

theorem markLine_eq (pc : Word) (c : ICache) :
    markLine pc c = rewriteLine pc (fun k e => { e with tv := lineWord pc k ||| 2 }) [0, 1, 2, 3] c := rfl

/-- A line whose words can all be fetched is loaded to the end. -/
theorem loadLine_eq {pc : Word} {s : State} {ks : List (BitVec 2)} (h : ∀ k ∈ ks, canFetch s (phys (lineWord pc k)) = true)
    (c : ICache) :
    loadLine pc s ks c = .ok (rewriteLine pc (fun k _ => ⟨lineWord pc k, memWord s (phys (lineWord pc k))⟩) ks c) := by
  induction ks generalizing c with
  | nil => rfl
  | cons k ks ih =>
    obtain ⟨hk, hks⟩ := List.forall_mem_cons.1 h
    have hlow : (phys (lineWord pc k)).extractLsb' 0 2 = 0#2 := by
      rw [phys_low _ 2 (by omega), lineWord_eq]
      exact BitVec.extractLsb'_append_eq_right
    rw [loadLine, iFetch32_of_canFetch hk, readLE_four_eq_memWord s hlow]
    exact ih hks _

theorem mem_allWords : ∀ k : BitVec 2, k ∈ [0#2, 1#2, 2#2, 3#2] := by decide

theorem mem_wordsToLoad {pc : Word} {k : BitVec 2} :
    k ∈ wordsToLoad pc ↔ (pc.extractLsb' 2 2).toNat ≤ k.toNat := by
  simp [wordsToLoad, List.mem_filter, mem_allWords k, BitVec.ule]

theorem wordsToLoad_nodup (pc : Word) : (wordsToLoad pc).Nodup := List.Nodup.filter _ (by decide)

/-- What a refill leaves in each entry of the cache. -/
theorem refill_read {s : State} {pc : Word} (h : ∀ k ∈ wordsToLoad pc, canFetch s (phys (lineWord pc k)) = true) :
    ∃ c, refill pc s = .ok c ∧
      (∀ i : BitVec 10, i.extractLsb' 2 8 ≠ pc.extractLsb' 4 8 → c.read i = s.ic.read i) ∧
      ∀ k, c.read (icLineIndex pc k) =
        if k ∈ wordsToLoad pc then ⟨lineWord pc k, memWord s (phys (lineWord pc k))⟩
        else ⟨lineWord pc k ||| 2, (s.ic.read (icLineIndex pc k)).data⟩ := by
  refine ⟨_, loadLine_eq h _, fun i hi => ?_, fun k => ?_⟩
  · rw [read_rewriteLine _ _ (wordsToLoad_nodup pc), markLine_eq, read_rewriteLine _ _ (by decide), if_neg (hi ·.1),
      if_neg (hi ·.1)]
  · obtain ⟨hline, hword⟩ := (eq_icLineIndex_iff _ pc k).1 rfl
    have hall : k ∈ ([0, 1, 2, 3] : List (BitVec 2)) := mem_allWords k
    rw [read_rewriteLine _ _ (wordsToLoad_nodup pc), markLine_eq, read_rewriteLine _ _ (by decide), hline, hword]
    simp only [true_and, if_pos hall]

/-- A cached miss whose line can be loaded is a refill and a fetch of the missed word. -/
theorem iFetch_refill {s : State} {c : ICache} (h : (fetchEntry s).tv ≠ s.pc) (hc : cachedFetch s = true)
    (hr : refill s.pc s = .ok c) : iFetch s = .ok ((c.read (icIndex s.pc)).data, { s with ic := c }) := by
  refine (if_neg h).trans ((if_pos hc).trans ?_)
  rw [hr]

/-- Settles O13: the missed word is one of those loaded. -/
theorem refillLoadsTheRestOfTheLine : Obligations.RefillLoadsTheRestOfTheLine := by
  intro s hmiss hcached hcan
  obtain ⟨c, hc, hother, hline⟩ :=
    refill_read (s := s) (pc := s.pc) fun k hk => by rw [lineWord_eq]; exact hcan k (mem_wordsToLoad.1 hk)
  refine ⟨_, c, iFetch_refill hmiss hcached hc, ?_, hother, fun k => ?_⟩
  · have hword : lineWord s.pc (s.pc.extractLsb' 2 2) = s.pc.extractLsb' 2 30 ++ 0#2 := by
      rw [lineWord_eq, BitVec.extractLsb'_append_extractLsb'_eq_extractLsb' (start₁ := 2) (len₁ := 2) rfl]
    rw [icIndex_eq_icLineIndex, hline, if_pos (mem_wordsToLoad.2 le_rfl), hword]
  · refine (hline k).trans ?_
    rw [lineWord_or_two, lineWord_eq]
    split_ifs with hload hbefore hbefore
    · exact absurd (mem_wordsToLoad.1 hload) (Nat.not_le.2 hbefore)
    · rfl
    · rfl
    · exact absurd (mem_wordsToLoad.2 (Nat.not_lt.1 hbefore)) hload

/-! ## What a load sees of a store (R66, R87) -/

theorem lowBytes_eq_lowOf (n : Nat) (v : Word) : lowBytes n v = lowOf n v := by
  apply BitVec.eq_of_getLsbD_eq
  intro i hi
  simp only [lowBytes, lowOf, BitVec.getLsbD_setWidth, BitVec.getLsbD_and, BitVec.getLsbD_ofNat, Nat.testBit_two_pow_sub_one,
    hi, decide_true, Bool.true_and, Bool.and_comm]

/-- The bytes are in RAM if the region that holds them is (R68). -/
theorem isRam_iff {s : State} {p : Word} {n : Nat} :
    isRam s p n = true ↔ ∃ base size, s.regionOf p n = some ⟨base, size, .ram⟩ := by
  unfold isRam
  cases s.regionOf p n with
  | none => simp
  | some r =>
    obtain ⟨base, size, kind⟩ := r
    cases kind <;> simp

theorem extWrite_mem_of_isRam {s : State} {p : Word} {n : Nat} (h : isRam s p n = true) (v : Word) :
    (s.extWrite p n v).mem = s.mem.writeLE p n v := by
  obtain ⟨base, size, hr⟩ := isRam_iff.1 h
  simp only [State.extWrite, hr]

theorem extRead_value_of_isRam {s : State} {p : Word} {n : Nat} (h : isRam s p n = true) :
    (s.extRead p n).1 = s.mem.readLE p n := by
  obtain ⟨base, size, hr⟩ := isRam_iff.1 h
  simp only [State.extRead, hr]

/-- Settles O14: both accesses go to the scratchpad, or both to one region of RAM. -/
theorem loadReturnsLatestStore : Obligations.LoadReturnsLatestStore := by
  intro s t a v n _ hn hisc hplace hw
  have hisc : s.isc = false := Bool.eq_false_of_not_eq_true hisc
  by_cases hs : inScratch (phys a) = true
  · rw [memWrite_scratch hisc hs] at hw
    cases hw
    refine ⟨_, memRead_scratch hs n _ |>.trans ?_, ⟨fun _ => rfl, fun _ => rfl⟩⟩
    rw [Memory.readLE_writeLE _ _ n hn (by omega), lowBytes_eq_lowOf]
  · obtain ⟨hbiu, hram⟩ := hplace.resolve_left hs
    have hs : inScratch (phys a) = false := Bool.eq_false_of_not_eq_true hs
    rw [memWrite_ext hisc hs hbiu] at hw
    cases hw
    have hvalue : ((s.extWrite (phys a) n v).extRead (phys a) n).1 = lowOf n v := by
      rw [extRead_value_of_isRam (s := s.extWrite _ n v) hram, extWrite_mem_of_isRam hram, Memory.readLE_writeLE _ _ n hn (by omega),
        lowBytes_eq_lowOf]
    refine ⟨((s.extWrite (phys a) n v).extRead (phys a) n).2, ?_, ⟨fun _ => rfl, fun _ => rfl⟩⟩
    rw [memRead_ext hs hbiu, ← hvalue]

end Sys2Proof
end

section
/-!
SUPPORT. The stores with the cache isolated, and what the other instructions leave of memory.
-/

namespace Sys2Proof
open Sys2Proof.Machine Sys2Proof.Claims

/-! ## The five stores (R269 to R273) -/

theorem byteInWord_eq (a : Word) : byteInWord a = a.toNat % 4 := extractLsb'_low2_toNat a

theorem misaligned_eq_not_aligned (a : Word) {w : Nat} (hw : w = 1 ∨ w = 2 ∨ w = 4) : misaligned w a = !aligned w a := by
  have hbits (n : Nat) : (a.extractLsb' 0 n != 0) = !(a.toNat % 2 ^ n == 0) := by
    rw [Bool.eq_iff_iff]
    simp [← BitVec.toNat_inj, BitVec.extractLsb'_toNat]
  rcases hw with rfl | rfl | rfl
  · simp [misaligned, aligned, Nat.mod_one]
  · exact hbits 1
  · exact hbits 2

theorem wordBase_mod_four (a : Word) : (wordBase a).toNat % 4 = 0 := by
  rw [← extractLsb'_low2_toNat, wordBase, BitVec.extractLsb'_and]
  simp

/-- Past its address checks each of the five is one write of its bytes (R262). -/
theorem exec_storeForm {s : State} {rt rs : RegNum} {imm : BitVec 16} {x : Instr × Nat × Word × Nat × Word}
    (hx : x ∈ storeForms s rt rs imm) (hal : aligned x.2.1 (address s rs imm) = true)
    (hk : allowed s (address s rs imm) = true) : exec x.1 s = storeTo x.2.2.1 x.2.2.2.1 x.2.2.2.2 s := by
  simp only [storeForms, List.mem_cons, List.not_mem_nil, or_false, ← byteInWord_eq] at hx
  have pass {w : Nat} (hw : w = 1 ∨ w = 2 ∨ w = 4) (hal : aligned w (address s rs imm) = true) (op : Opcode) (k : Out) :
      checkStore op w (address s rs imm) s k = k :=
    checkStore_passes (by rw [misaligned_eq_not_aligned _ hw, hal]; rfl) hk op k
  rcases hx with rfl | rfl | rfl | rfl | rfl
  · exact pass (.inl rfl) hal ..
  · exact pass (.inr (.inl rfl)) hal ..
  · exact pass (.inr (.inr rfl)) hal ..
  · exact pass (.inl rfl) hal ..
  · exact pass (.inl rfl) hal ..

/-- The bytes of each of the five lie in one aligned word. -/
theorem storeForm_in_word {s : State} {rt rs : RegNum} {imm : BitVec 16} {x : Instr × Nat × Word × Nat × Word}
    (hx : x ∈ storeForms s rt rs imm) (hal : aligned x.2.1 (address s rs imm) = true) :
    x.2.2.1.toNat % 4 + x.2.2.2.1 ≤ 4 := by
  have hbase : (address s rs imm &&& 0xFFFFFFFC).toNat % 4 = 0 := wordBase_mod_four _
  simp only [storeForms, List.mem_cons, List.not_mem_nil, or_false] at hx
  rcases hx with rfl | rfl | rfl | rfl | rfl <;> simp only [aligned, beq_iff_eq] at hal ⊢ <;> omega

/-! ## The bytes of a store -/

/-- A store that does not wrap around its memory, byte by byte (R66, R69). -/
theorem read_writeLE_range {w : Nat} (m : Memory) (p : BitVec w) {n : Nat} (h : p.toNat + n ≤ 2 ^ w) (v : Word) (q : Nat) :
    (m.writeLE p n v).read q = if p.toNat ≤ q ∧ q < p.toNat + n then byteOf v (q - p.toNat) else m.read q := by
  split_ifs with hq
  · have hlt : q < 2 ^ w := by omega
    have hto : (BitVec.ofNat w q).toNat = q := by rw [BitVec.toNat_ofNat, Nat.mod_eq_of_lt hlt]
    have hsub : (BitVec.ofNat w q - p).toNat = q - p.toNat := by
      rw [BitVec.toNat_sub_of_le (by rw [BitVec.le_def, hto]; exact hq.1), hto]
    have key := m.read_writeLE p n (by omega) v (BitVec.ofNat w q)
    rw [hto, hsub, if_pos (by omega)] at key
    rw [key]
    rfl
  · refine Memory.read_writeLE_other m p n v q fun k hk hqk => hq ?_
    rw [BitVec.toNat_add, BitVec.toNat_ofNat, Nat.mod_eq_of_lt (show k < 2 ^ w by omega), Nat.mod_eq_of_lt (by omega)] at hqk
    omega

theorem scratchOffset_toNat (a : Word) : (scratchOffset a).toNat = a.toNat % 1024 := by
  simp [scratchOffset, BitVec.extractLsb'_toNat]

/-! ## Isolated stores (R72 to R74) -/

theorem invalidateLine_eq (a : Word) (c : ICache) :
    invalidateLine a c = rewriteLine a (fun _ e => { e with tv := 2 }) [0, 1, 2, 3] c := rfl

theorem read_invalidateLine (a : Word) (c : ICache) (i : BitVec 10) :
    (invalidateLine a c).read i =
      if i.extractLsb' 2 8 = a.extractLsb' 4 8 then { c.read i with tv := 2 } else c.read i := by
  rw [invalidateLine_eq, read_rewriteLine _ _ (by decide)]
  exact if_congr (and_iff_left (mem_allWords _)) rfl rfl

section
variable {s : State} (a v : Word)

theorem isolatedCache_disabled (h : s.biuIs1 = false) : isolatedCache a v s = s.ic := by simp [isolatedCache, h]

theorem isolatedCache_tagTest (h : s.biuIs1 = true) (ht : s.biuTag = true) :
    isolatedCache a v s = invalidateLine a s.ic := by simp [isolatedCache, h, ht]

theorem isolatedCache_data (h : s.biuIs1 = true) (ht : s.biuTag = false) (hl : s.biuLock = false) :
    isolatedCache a v s =
      s.ic.write (icIndex a) { s.ic.read (icIndex a) with data := v <<< (8 * byteInWord a) } := by
  simp [isolatedCache, h, ht, hl, byteInWord]

theorem isolatedCache_locked (h : s.biuIs1 = true) (ht : s.biuTag = false) (hl : s.biuLock = true) :
    isolatedCache a v s = s.ic := by simp [isolatedCache, h, ht, hl]

theorem isolatedScratch_on (n : Nat) (hp : s.params.isolatedScratchWrite = true) (hds : s.biuDs = true)
    (hl : s.biuLock = false) : isolatedScratch a n v s = s.scratch.writeLE (scratchOffset a) n v := by
  simp [isolatedScratch, hp, hds, hl]

theorem isolatedScratch_off (n : Nat) (h : ¬s.params.isolatedScratchWrite ∨ ¬s.biuDs ∨ s.biuLock) :
    isolatedScratch a n v s = s.scratch := by
  rcases h with h | h | h <;> simp [isolatedScratch, h]

end

/-- What the cache and the scratchpad hold after an isolated store inside one aligned word. -/
theorem isolatedStore_stores (s : State) {a : Word} {n : Nat} (v : Word) (hn : a.toNat % 4 + n ≤ 4) :
    StoresIsolated s (s.isolatedStore a n v) a n v s.events where
  biu := rfl
  disabled h i := by
    rw [isolatedStore_ic, isolatedCache_disabled a _ (Bool.eq_false_of_not_eq_true h)]
  tagTest h ht i := by
    rw [isolatedStore_ic, isolatedCache_tagTest a _ h ht, read_invalidateLine]
  data h ht hl i := by
    rw [isolatedStore_ic, isolatedCache_data a _ h (Bool.eq_false_of_not_eq_true ht) (Bool.eq_false_of_not_eq_true hl),
      ICache.read_write, byteInWord_eq, lowBytes_eq_lowOf]
    refine ite_congr rfl (fun hi => ?_) fun _ => rfl
    rw [hi]
    rfl
  locked h ht hl i := by
    rw [isolatedStore_ic, isolatedCache_locked a _ h (Bool.eq_false_of_not_eq_true ht) hl]
  scratchStore hp hds hl q := by
    have hrange : (scratchOffset a).toNat + n ≤ 2 ^ 10 := by rw [scratchOffset_toNat]; omega
    rw [isolatedStore_scratch, isolatedScratch_on a v n hp hds (Bool.eq_false_of_not_eq_true hl),
      read_writeLE_range _ _ hrange, scratchOffset_toNat]
  scratchOther h q := by
    rw [isolatedStore_scratch, isolatedScratch_off a v n h]
  mem _ := rfl
  events := rfl

/-- A store inside one aligned word, made by whatever instruction while the cache is isolated. -/
theorem storeTo_isolated {s : State} (hisc : s.isc = true) {a : Word} {n : Nat} (hn : a.toNat % 4 + n ≤ 4) (v : Word) :
    ∃ t, storeTo a n v s = .next t ∧ StoreFrame s t ∧ StoresIsolated s t a n v s.events := by
  have hw := memWrite_isolated (s := s.commitLoad) hisc a n v
  refine ⟨_, by rw [storeTo, hw], memWrite_storeFrame hw, ?_⟩
  exact { isolatedStore_stores s.commitLoad v hn with }

/-- Settles O32: each of the five is one isolated store inside one aligned word. -/
theorem isolatedStores : Obligations.IsolatedStores := by
  intro s rt rs imm hisc hk x hx hal
  rw [exec_storeForm hx hal hk]
  exact storeTo_isolated hisc (storeForm_in_word hx hal) _

/-! ## The other instructions (R60, R89) -/

/-- Settles O33, by the inversion of `exec`: the one outcome that writes memory, BIU or the cache belongs to the stores. -/
theorem onlyStoresChangeMemory : Obligations.OnlyStoresChangeMemory := by
  intro i s t hi h
  cases exec_did h with
  | stored _ _ _ _ _ hst => exact absurd hst (by simp [hi])
  | trap | result | hiLo | nothing | branched | linked | loaded | asked | movedToCop0 | returned =>
    exact ⟨⟨fun _ => rfl, fun _ => rfl⟩, ⟨rfl, fun _ => rfl⟩⟩

end Sys2Proof
end

section
/-!
SUPPORT. The host's calls between steps: the invariant, and pokes.
-/

namespace Sys2Proof
open Sys2Proof.Machine Sys2Proof.Claims

/-! ## The invariant (R148, R385, R420) -/

/-- The values of R420 meet the invariant. -/
theorem reset_inv : Safety.Inv State.reset where
  r0_zero := rfl
  npc_follows _ := rfl
  bt_in_slot _ := rfl
  sr_reserved := by decide
  cause_reserved := by decide
  prid_fixed := rfl
  dcic_reserved := by decide
  biu_reserved := by decide
  cache_poison _ := show (3#32).getLsbD 0 = !(0#32).getLsbD 11 by decide
  ic_wf := reset_wf.2.2
  scratch_wf := reset_wf.2.1
  mem_wf := reset_wf.1

/-- An interrupt line is one of Cause's bits 15:10, none of which is reserved (R31, R385). -/
theorem irqCause_reserved (c : Word) (b : Bool) {line : Nat} (h : line ≤ 5) :
    ((c &&& ~~~(1#32 <<< (10 + line))) ||| bitIf b (10 + line)) &&& 0x0FFF0083 = c &&& 0x0FFF0083 := by
  apply BitVec.eq_of_getLsbD_eq
  intro i hi
  change (((c &&& ~~~bitIf true (10 + line)) ||| bitIf b (10 + line)) &&& 0x0FFF0083).getLsbD i = _
  simp only [BitVec.getLsbD_or, BitVec.getLsbD_and, BitVec.getLsbD_not, getLsbD_bitIf]
  by_cases hline : i = 10 + line
  · have hmask : (0x0FFF0083 : Word).getLsbD i = false := by
      subst hline
      interval_cases line <;> rfl
    rw [hmask, Bool.and_false, Bool.and_false]
  · simp [hline, hi]

section
variable {s : State} (h : Safety.Inv s)
include h

theorem Safety.Inv.assertIrq {line : Nat} {b : Bool} {t : State} (ht : assertIrq line b s = .next t) : Safety.Inv t := by
  unfold Machine.assertIrq at ht
  split_ifs at ht with hline
  cases ht
  exact { h with cause_reserved := (irqCause_reserved s.cause b hline).trans h.cause_reserved }

theorem Safety.Inv.hostWrite (r : HostReg) (v : Word) : Safety.Inv (hostWrite r v s) := by
  cases r with
  | gpr n => exact h.setReg n v
  | pc => exact { h with npc_follows := fun _ => rfl, bt_in_slot := fun _ => rfl }
  | hi => exact h.withHiLo v s.lo
  | lo => exact h.withHiLo s.hi v
  | cop0 n =>
    unfold Machine.hostWrite
    dsimp only
    split
    -- DCIC, SR and Cause have reserved bits; the other registers are plain words
    case h_4 => exact { h with dcic_reserved := and_and_eq_zero (by decide) v }
    case h_8 => exact { h with sr_reserved := and_and_eq_zero (by decide) v }
    case h_9 => exact { h with cause_reserved := and_and_eq_zero (by decide) v }
    all_goals exact { h with }
  | ppuLy | ppuXpos | ppuMode => exact h

theorem Safety.Inv.setRegister {id : Nat} {v : Word} {t : State} (ht : setRegister id v s = .next t) : Safety.Inv t := by
  unfold Machine.setRegister at ht
  split at ht <;> cases ht
  exact h.hostWrite _ v

theorem Safety.Inv.pokeMemory (a : Word) (b : Byte) : Safety.Inv (pokeMemory a b s) := by
  unfold Machine.pokeMemory
  split_ifs
  · exact { h with scratch_wf := Memory.write_wf h.scratch_wf (scratchOffset _).isLt b }
  · exact { h with mem_wf := Memory.write_wf h.mem_wf (phys a).isLt b }
  · exact h

/-- A machine reset keeps the memory and gives the rest its reset values. -/
theorem Safety.Inv.machineReset : Safety.Inv (machineReset s) := { reset_inv with mem_wf := h.mem_wf }

end

/-- Settles O54, call by call. -/
theorem hostCallsKeepInv : Obligations.HostCallsKeepInv := fun _ _ h =>
  ⟨fun _ _ => h.assertIrq, fun _ _ => h.setRegister, h.pokeMemory, h.machineReset⟩

/-! ## Pokes (R77) -/

/-- Two addresses of the scratchpad with one offset are one address (R65). -/
theorem scratchOffset_inj {p q : Word} (hp : inScratch p = true) (hq : inScratch q = true)
    (h : (scratchOffset p).toNat = (scratchOffset q).toNat) : p = q := by
  simp only [inScratch, Bool.and_eq_true, BitVec.ule, decide_eq_true_eq, BitVec.toNat_ofNat] at hp hq
  rw [scratchOffset_toNat, scratchOffset_toNat] at h
  exact BitVec.eq_of_toNat_eq (by omega)

section
variable {s : State} {a : Word}

theorem pokeMemory_scratch (h : inScratch (phys a) = true) (b : Byte) :
    pokeMemory a b s = { s with scratch := s.scratch.write (scratchOffset (phys a)).toNat b } := if_pos h

theorem pokeMemory_region (h : inScratch (phys a) = false) (hr : (s.regionOf (phys a) 1).isSome = true) (b : Byte) :
    pokeMemory a b s = { s with mem := s.mem.write (phys a).toNat b } :=
  (if_neg (Bool.eq_false_iff.1 h)).trans (if_pos hr)

theorem peekMemory_scratch (h : inScratch (phys a) = true) :
    peekMemory a s = s.scratch.read (scratchOffset (phys a)).toNat := if_pos h

theorem peekMemory_region (h : inScratch (phys a) = false) (hr : (s.regionOf (phys a) 1).isSome = true) :
    peekMemory a s = s.mem.read (phys a).toNat := (if_neg (Bool.eq_false_iff.1 h)).trans (if_pos hr)

end

/-- A peek at another address does not see a change of one scratchpad byte. -/
theorem peekMemory_scratch_write {s : State} {p a' : Word} (hp : inScratch p = true) (hne : phys a' ≠ p) (b : Byte) :
    peekMemory a' { s with scratch := s.scratch.write (scratchOffset p).toNat b } = peekMemory a' s := by
  unfold peekMemory
  refine ite_congr rfl (fun hs => ?_) fun _ => rfl
  exact (Memory.read_write ..).trans (if_neg fun h => hne (scratchOffset_inj hs hp h))

/-- A peek at another address does not see a change of one byte of external memory. -/
theorem peekMemory_mem_write {s : State} {p a' : Word} (hne : phys a' ≠ p) (b : Byte) :
    peekMemory a' { s with mem := s.mem.write p.toNat b } = peekMemory a' s := by
  unfold peekMemory
  refine ite_congr rfl (fun _ => rfl) fun _ => ite_congr rfl (fun _ => ?_) fun _ => rfl
  exact (Memory.read_write ..).trans (if_neg fun h => hne (BitVec.eq_of_toNat_eq h))

/-- Settles O55, for the two places a poke reaches. -/
theorem pokeChangesOneByte : Obligations.PokeChangesOneByte := by
  intro s a b hplace
  by_cases hs : inScratch (phys a) = true
  · rw [pokeMemory_scratch hs]
    refine ⟨?_, rfl, fun a' hne => peekMemory_scratch_write hs hne b⟩
    rw [peekMemory_scratch hs, Memory.read_write, if_pos rfl]
  · have hr := hplace.resolve_left hs
    have hs := Bool.eq_false_of_not_eq_true hs
    rw [pokeMemory_region hs hr]
    refine ⟨?_, rfl, fun a' hne => peekMemory_mem_write hne b⟩
    exact (peekMemory_region (s := { s with mem := s.mem.write (phys a).toNat b }) hs hr).trans
      ((Memory.read_write ..).trans (if_pos rfl))

end Sys2Proof
end

section
/-!
SUPPORT. Words as fields: a word is put together from its fields, and masked field by field under each mask of the opcode table.
-/

namespace Sys2Proof
open Sys2Proof.Machine Sys2Proof.Claims
open BitVec (and_allOnes and_zero)

/-! ## A word is its fields -/

section
variable (w : Word)

theorem rWord_fields :
    rWord (opField w) (rsField w) (rtField w) (rdField w) (saField w) (functField w) = w := by
  apply BitVec.eq_of_getLsbD_eq
  intro i h
  simp only [rWord, opField, rsField, rtField, rdField, saField, functField, BitVec.getLsbD_or, getLsbD_place,
    BitVec.getLsbD_extractLsb']
  interval_cases i <;> simp

theorem iWord_fields : iWord (opField w) (rsField w) (rtField w) (immField w) = w := by
  apply BitVec.eq_of_getLsbD_eq
  intro i h
  simp only [iWord, opField, rsField, rtField, immField, BitVec.getLsbD_or, getLsbD_place, BitVec.getLsbD_extractLsb']
  interval_cases i <;> simp

theorem jWord_targetField (op : Opcode) : jWord op (targetField w) = iWord op (rsField w) (rtField w) (immField w) := by
  apply BitVec.eq_of_getLsbD_eq
  intro i h
  simp only [jWord, iWord, rsField, rtField, immField, targetField, BitVec.getLsbD_or, getLsbD_place,
    BitVec.getLsbD_extractLsb']
  interval_cases i <;> simp

theorem jWord_zero (op : Opcode) : jWord op 0 = iWord op 0 0 0 := by
  simp [jWord, iWord, place]

theorem codeWord_codeField (funct : BitVec 6) :
    codeWord (codeField w) funct = rWord Op.special (rsField w) (rtField w) (rdField w) (saField w) funct := by
  apply BitVec.eq_of_getLsbD_eq
  intro i h
  simp only [codeWord, rWord, rsField, rtField, rdField, saField, codeField, BitVec.getLsbD_or, getLsbD_place,
    BitVec.getLsbD_extractLsb']
  interval_cases i <;> simp

/-- `rs[4]`, bit 25, marks a function form of a coprocessor word (R105). -/
theorem getLsbD_of_isFunction {w : Word} (h : rsField w &&& 0x10 = 0x10) : w.getLsbD 25 = true := by
  simpa [rsField] using congrArg (fun x => x.getLsbD 4) h

theorem cofunWord_cofunField {w : Word} (h : rsField w &&& 0x10 = 0x10) (op : Opcode) :
    cofunWord op (cofunField w) = iWord op (rsField w) (rtField w) (immField w) := by
  have hbit := getLsbD_of_isFunction h
  apply BitVec.eq_of_getLsbD_eq
  intro i hi
  simp only [cofunWord, iWord, rsField, rtField, immField, cofunField, BitVec.getLsbD_or, getLsbD_place,
    BitVec.getLsbD_extractLsb']
  interval_cases i <;> simp [hbit]

/-- The lowest bit of rt tells BCzT from BCzF (R105). -/
theorem rtField_and_one : rtField w &&& 1 = if condField w then 1 else 0 := by
  have h : (rtField w &&& 1).getLsbD 0 = condField w := by simp [condField, rtField]
  rw [← h]
  generalize rtField w = rt
  revert rt
  decide

/-! ## A word under a mask: field by field -/

theorem and_eq_rWord {w m : Word} {op : Opcode} {rs rt rd : RegNum} {sa : BitVec 5} {funct : BitVec 6}
    (hop : opField w &&& opField m = op) (hrs : rsField w &&& rsField m = rs) (hrt : rtField w &&& rtField m = rt)
    (hrd : rdField w &&& rdField m = rd) (hsa : saField w &&& saField m = sa)
    (hf : functField w &&& functField m = funct) : w &&& m = rWord op rs rt rd sa funct := by
  rw [← rWord_fields (w &&& m), ← hop, ← hrs, ← hrt, ← hrd, ← hsa, ← hf]
  simp only [opField, rsField, rtField, rdField, saField, functField, BitVec.extractLsb'_and]

theorem and_eq_iWord {w m : Word} {op : Opcode} {rs rt : RegNum} {imm : BitVec 16}
    (hop : opField w &&& opField m = op) (hrs : rsField w &&& rsField m = rs) (hrt : rtField w &&& rtField m = rt)
    (himm : immField w &&& immField m = imm) : w &&& m = iWord op rs rt imm := by
  rw [← iWord_fields (w &&& m), ← hop, ← hrs, ← hrt, ← himm]
  simp only [opField, rsField, rtField, immField, BitVec.extractLsb'_and]

theorem and_fc00003f : w &&& 0xFC00003F = rWord (opField w) 0 0 0 0 (functField w) :=
  and_eq_rWord and_allOnes and_zero and_zero and_zero and_zero and_allOnes

theorem and_fc1f0000 : w &&& 0xFC1F0000 = iWord (opField w) 0 (rtField w) 0 :=
  and_eq_iWord and_allOnes and_zero and_allOnes and_zero

theorem and_fc000000 : w &&& 0xFC000000 = iWord (opField w) 0 0 0 :=
  and_eq_iWord and_allOnes and_zero and_zero and_zero

theorem and_ffe00000 : w &&& 0xFFE00000 = rWord (opField w) (rsField w) 0 0 0 0 :=
  and_eq_rWord and_allOnes and_allOnes and_zero and_zero and_zero and_zero

theorem and_ffe10000 : w &&& 0xFFE10000 = iWord (opField w) (rsField w) (rtField w &&& 1) 0 :=
  and_eq_iWord and_allOnes and_allOnes rfl and_zero

theorem and_fe000000 : w &&& 0xFE000000 = iWord (opField w) (rsField w &&& 0x10) 0 0 :=
  and_eq_iWord and_allOnes rfl and_zero and_zero

theorem and_fe00003f : w &&& 0xFE00003F = rWord (opField w) (rsField w &&& 0x10) 0 0 0 (functField w) :=
  and_eq_rWord and_allOnes rfl and_zero and_zero and_zero and_allOnes

/-! The bits a row reads: its mask and its operands. -/

theorem and_fc00003f_or_001fffc0 : w &&& (0xFC00003F ||| 0x001FFFC0) =
    rWord (opField w) 0 (rtField w) (rdField w) (saField w) (functField w) :=
  and_eq_rWord and_allOnes and_zero and_allOnes and_allOnes and_allOnes and_allOnes

theorem and_fc00003f_or_03fff800 : w &&& (0xFC00003F ||| 0x03FFF800) =
    rWord (opField w) (rsField w) (rtField w) (rdField w) 0 (functField w) :=
  and_eq_rWord and_allOnes and_allOnes and_allOnes and_allOnes and_zero and_allOnes

theorem and_fc00003f_or_03e00000 : w &&& (0xFC00003F ||| 0x03E00000) = rWord (opField w) (rsField w) 0 0 0 (functField w) :=
  and_eq_rWord and_allOnes and_allOnes and_zero and_zero and_zero and_allOnes

theorem and_fc00003f_or_03e0f800 : w &&& (0xFC00003F ||| 0x03E0F800) =
    rWord (opField w) (rsField w) 0 (rdField w) 0 (functField w) :=
  and_eq_rWord and_allOnes and_allOnes and_zero and_allOnes and_zero and_allOnes

theorem and_fc00003f_or_03ffffc0 : w &&& (0xFC00003F ||| 0x03FFFFC0) =
    rWord (opField w) (rsField w) (rtField w) (rdField w) (saField w) (functField w) :=
  and_eq_rWord and_allOnes and_allOnes and_allOnes and_allOnes and_allOnes and_allOnes

theorem and_fc00003f_or_0000f800 : w &&& (0xFC00003F ||| 0x0000F800) = rWord (opField w) 0 0 (rdField w) 0 (functField w) :=
  and_eq_rWord and_allOnes and_zero and_zero and_allOnes and_zero and_allOnes

theorem and_fc00003f_or_03ff0000 : w &&& (0xFC00003F ||| 0x03FF0000) =
    rWord (opField w) (rsField w) (rtField w) 0 0 (functField w) :=
  and_eq_rWord and_allOnes and_allOnes and_allOnes and_zero and_zero and_allOnes

theorem and_fc1f0000_or_03e0ffff : w &&& (0xFC1F0000 ||| 0x03E0FFFF) =
    iWord (opField w) (rsField w) (rtField w) (immField w) :=
  and_eq_iWord and_allOnes and_allOnes and_allOnes and_allOnes

theorem and_fc000000_or_03ffffff : w &&& (0xFC000000 ||| 0x03FFFFFF) =
    iWord (opField w) (rsField w) (rtField w) (immField w) :=
  and_eq_iWord and_allOnes and_allOnes and_allOnes and_allOnes

theorem and_fc000000_or_03e0ffff : w &&& (0xFC000000 ||| 0x03E0FFFF) = iWord (opField w) (rsField w) 0 (immField w) :=
  and_eq_iWord and_allOnes and_allOnes and_zero and_allOnes

theorem and_fc000000_or_001fffff : w &&& (0xFC000000 ||| 0x001FFFFF) = iWord (opField w) 0 (rtField w) (immField w) :=
  and_eq_iWord and_allOnes and_zero and_allOnes and_allOnes

theorem and_ffe00000_or_001ff800 : w &&& (0xFFE00000 ||| 0x001FF800) =
    rWord (opField w) (rsField w) (rtField w) (rdField w) 0 0 :=
  and_eq_rWord and_allOnes and_allOnes and_allOnes and_allOnes and_zero and_zero

theorem and_ffe10000_or_0000ffff : w &&& (0xFFE10000 ||| 0x0000FFFF) =
    iWord (opField w) (rsField w) (rtField w &&& 1) (immField w) :=
  and_eq_iWord and_allOnes and_allOnes rfl and_allOnes

theorem and_fe000000_or_01ffffff : w &&& (0xFE000000 ||| 0x01FFFFFF) =
    iWord (opField w) (rsField w) (rtField w) (immField w) :=
  and_eq_iWord and_allOnes and_allOnes and_allOnes and_allOnes

theorem and_fc00003f_or_00000000 : w &&& (0xFC00003F ||| 0x00000000) = rWord (opField w) 0 0 0 0 (functField w) :=
  and_eq_rWord and_allOnes and_zero and_zero and_zero and_zero and_allOnes

theorem and_fc000000_or_00000000 : w &&& (0xFC000000 ||| 0x00000000) = iWord (opField w) 0 0 0 :=
  and_eq_iWord and_allOnes and_zero and_zero and_zero

theorem and_ffe00000_or_00000000 : w &&& (0xFFE00000 ||| 0x00000000) = rWord (opField w) (rsField w) 0 0 0 0 :=
  and_eq_rWord and_allOnes and_allOnes and_zero and_zero and_zero and_zero

end

end Sys2Proof
end

section
/-!
SUPPORT. The round trips of decode and encode: a word lies in the row of the instruction it decodes to, the encoder writes back
the bits that the row reads, and an encoded instruction decodes to itself.
-/

namespace Sys2Proof
open Sys2Proof.Machine Sys2Proof.Claims

/-! ## The maps of the decoder (R109 to R114)

Where a map is split into its arms, the case `h_n` is the arm of the number `n - 1`, and the last arm takes what is left. -/

/-- A field holds one of its numbers. -/
theorem exists_eq_ofNat {k : Nat} (f : BitVec k) : ∃ n < 2 ^ k, f = BitVec.ofNat k n := ⟨f.toNat, f.isLt, by simp⟩

/-- The last number is what is left when every other one is excluded. -/
theorem eq_last_of_ne {k : Nat} {f : BitVec k} (h : ∀ n < 2 ^ k - 1, f ≠ BitVec.ofNat k n) :
    f = BitVec.ofNat k (2 ^ k - 1) := by
  obtain ⟨n, hn, rfl⟩ := exists_eq_ofNat f
  by_cases hlt : n < 2 ^ k - 1
  · exact absurd rfl (h n hlt)
  · rw [show n = 2 ^ k - 1 by omega]

/-- What the round trips need of a word and its instruction: the word lies in the instruction's row (R118), and the encoder
writes the bits of the word that the row reads (R116). -/
structure Reads (w : Word) (i : Instr) : Prop where
  matched : w &&& (rowOf i).mask = (rowOf i).pattern
  encoded : encode i = w &&& usedBits i

section
variable {w : Word}

theorem decode_special (h : opField w = Op.special) : decode w = decodeSpecial w := by rw [decode, h]; rfl
theorem decode_regimm (h : opField w = Op.regimm) : decode w = decodeRegimm w := by rw [decode, h]; rfl
theorem decode_cop0 (h : opField w = Op.cop0) : decode w = decodeCop0 w := by rw [decode, h]; rfl
theorem decode_cop2 (h : opField w = Op.cop2) : decode w = decodeCop2 w := by rw [decode, h]; rfl

theorem decodeCop0_function (h : rsField w &&& 0x10 = 0x10) : decodeCop0 w = decodeCop0Function w := by
  unfold decodeCop0
  split
  case h_17 => rfl
  all_goals
    rename_i hrs
    rw [hrs] at h
    exact absurd h (by decide)

theorem decodeCop2_command (h : rsField w &&& 0x10 = 0x10) : decodeCop2 w = .cop2 (cofunField w) := by
  unfold decodeCop2
  split
  case h_17 => rfl
  all_goals
    rename_i hrs
    rw [hrs] at h
    exact absurd h (by decide)

theorem reads_decodeSpecial (hop : opField w = Op.special) : Reads w (decodeSpecial w) := by
  have matched {f : BitVec 6} (hf : functField w = f) : w &&& 0xFC00003F = rWord Op.special 0 0 0 0 f := by
    rw [and_fc00003f, hop, hf]
  unfold decodeSpecial
  split
  case h_64 =>
    have hf : functField w = 0x3F#6 := eq_last_of_ne (by intro n hn; interval_cases n <;> assumption)
    exact ⟨matched hf, (matched hf).symm⟩
  all_goals
    rename_i hf
    refine ⟨matched hf, ?_⟩
    -- the mask and the operands stay as the table writes them, for the lemmas about words under a mask
    simp only [encode, usedBits, rowOf, -BitVec.reduceOr, codeWord_codeField, and_fc00003f_or_001fffc0,
      and_fc00003f_or_03fff800, and_fc00003f_or_03e00000, and_fc00003f_or_03e0f800, and_fc00003f_or_03ffffc0,
      and_fc00003f_or_0000f800, and_fc00003f_or_03ff0000, and_fc00003f_or_00000000, hop, hf]

theorem reads_decodeRegimm (hop : opField w = Op.regimm) : Reads w (decodeRegimm w) := by
  have matched {rt : RegNum} (hrt : rtField w = rt) : w &&& 0xFC1F0000 = iWord Op.regimm 0 rt 0 := by
    rw [and_fc1f0000, hop, hrt]
  have encoded {rt : RegNum} (hrt : rtField w = rt) :
      iWord Op.regimm (rsField w) rt (immField w) = w &&& (0xFC1F0000 ||| 0x03E0FFFF) := by
    rw [and_fc1f0000_or_03e0ffff, hop, hrt]
  unfold decodeRegimm
  split
  case h_32 =>
    have hrt : rtField w = 0x1F#5 := eq_last_of_ne (by intro n hn; interval_cases n <;> assumption)
    exact ⟨matched hrt, encoded hrt⟩
  all_goals
    rename_i hrt
    exact ⟨matched hrt, encoded hrt⟩

theorem reads_decodeCop0Function (hop : opField w = Op.cop0) (hrs : rsField w &&& 0x10 = 0x10) :
    Reads w (decodeCop0Function w) := by
  have matched {f : BitVec 6} (hf : functField w = f) : w &&& 0xFE00003F = rWord Op.cop0 0x10 0 0 0 f := by
    rw [and_fe00003f, hop, hrs, hf]
  unfold decodeCop0Function
  split
  case h_64 =>
    have hf : functField w = 0x3F#6 := eq_last_of_ne (by intro n hn; interval_cases n <;> assumption)
    exact ⟨matched hf, (matched hf).symm⟩
  all_goals
    rename_i hf
    exact ⟨matched hf, (matched hf).symm⟩

/-- The numbers 16 to 31 of rs, those with `rs[4] = 1`, are the last arm of the two coprocessor maps (R105). -/
theorem isFunction_of_ne {rs : RegNum} (h : ∀ n < 16, rs ≠ BitVec.ofNat 5 n) : rs &&& 0x10 = 0x10 := by
  obtain ⟨n, hn, rfl⟩ := exists_eq_ofNat rs
  have hge : 16 ≤ n := Nat.le_of_not_lt fun hlt => h n hlt rfl
  interval_cases n <;> rfl

section
variable {op : Opcode} (hop : opField w = op)
include hop

theorem and_ffe00000_of_rs {rs : RegNum} (hrs : rsField w = rs) : w &&& 0xFFE00000 = rWord op rs 0 0 0 0 := by
  rw [and_ffe00000, hop, hrs]

theorem and_ffe10000_of_branch (hrs : rsField w = 8#5) :
    w &&& 0xFFE10000 = iWord op 8#5 (if condField w then 1 else 0) 0 := by
  rw [and_ffe10000, hop, hrs, rtField_and_one]

theorem iWord_of_branch (hrs : rsField w = 8#5) :
    iWord op 8#5 (if condField w then 1 else 0) (immField w) = w &&& (0xFFE10000 ||| 0x0000FFFF) := by
  rw [and_ffe10000_or_0000ffff, hop, hrs, rtField_and_one]

end

theorem reads_decodeCop0 (hop : opField w = Op.cop0) : Reads w (decodeCop0 w) := by
  unfold decodeCop0
  split
  case h_9 hrs =>
    have matched := and_ffe10000_of_branch hop hrs
    have encoded := iWord_of_branch hop hrs
    split_ifs at * <;> exact ⟨matched, encoded⟩
  case h_17 =>
    exact reads_decodeCop0Function hop (isFunction_of_ne (by intro n hn; interval_cases n <;> assumption))
  all_goals
    rename_i hrs
    refine ⟨and_ffe00000_of_rs hop hrs, ?_⟩
    simp only [encode, usedBits, rowOf, -BitVec.reduceOr, and_ffe00000_or_001ff800, and_ffe00000_or_00000000, hop, hrs]

theorem reads_decodeCop2 (hop : opField w = Op.cop2) : Reads w (decodeCop2 w) := by
  unfold decodeCop2
  split
  case h_9 hrs =>
    have matched := and_ffe10000_of_branch hop hrs
    have encoded := iWord_of_branch hop hrs
    split_ifs at * <;> exact ⟨matched, encoded⟩
  case h_17 =>
    have hrs : rsField w &&& 0x10 = 0x10 := isFunction_of_ne (by intro n hn; interval_cases n <;> assumption)
    refine ⟨(and_fe000000 w).trans (by rw [hop, hrs]; rfl), ?_⟩
    exact ((and_fe000000_or_01ffffff w).trans (by rw [hop, ← cofunWord_cofunField hrs]; rfl)).symm
  all_goals
    rename_i hrs
    refine ⟨and_ffe00000_of_rs hop hrs, ?_⟩
    simp only [encode, usedBits, rowOf, -BitVec.reduceOr, and_ffe00000_or_001ff800, and_ffe00000_or_00000000, hop, hrs]

/-- A word lies in the row of the instruction it decodes to, and the encoder writes back what the row reads of it. -/
theorem reads_decode (w : Word) : Reads w (decode w) := by
  have matched {op : Opcode} (hop : opField w = op) : w &&& 0xFC000000 = iWord op 0 0 0 := by
    rw [and_fc000000, hop]
  unfold decode
  split
  case h_1 hop => exact reads_decodeSpecial hop
  case h_2 hop => exact reads_decodeRegimm hop
  case h_17 hop => exact reads_decodeCop0 hop
  case h_19 hop => exact reads_decodeCop2 hop
  case h_64 =>
    have hop : opField w = 0x3F#6 := eq_last_of_ne (by intro n hn; interval_cases n <;> assumption)
    exact ⟨matched hop, (matched hop).symm⟩
  all_goals
    rename_i hop
    refine ⟨matched hop, ?_⟩
    simp only [encode, usedBits, rowOf, -BitVec.reduceOr, jWord_targetField, jWord_zero, and_fc000000_or_03ffffff,
      and_fc000000_or_03e0ffff, and_fc000000_or_001fffff, and_fc000000_or_00000000, hop]

end

/-- Settles O2, by the maps of the decoder. -/
theorem encodeOfDecode : Obligations.EncodeOfDecode := fun w => (reads_decode w).encoded

/-! ## Decode of encode -/

/-- The word an instruction is encoded to decodes to it: the fields of its format are what was put there. -/
theorem decode_encode (i : Instr) : decode (encode i) = i := by
  cases i with
  | sll | srl | sra | sllv | srlv | srav | jr | jalr | mfhi | mthi | mflo | mtlo | mult | multu | div | divu | add
    | addu | sub | subu | and | or | xor | nor | slt | sltu =>
    rw [encode, decode_special (opField_rWord ..), decodeSpecial, functField_rWord, rsField_rWord, rtField_rWord, rdField_rWord,
      saField_rWord]
    rfl
  | syscall | brk =>
    rw [encode, decode_special (opField_codeWord ..), decodeSpecial, functField_codeWord, codeField_codeWord]
    rfl
  | bltz | bgez | bltzAliasRt2 | bgezAliasRt3 | bltzAliasRt4 | bgezAliasRt5 | bltzAliasRt6 | bgezAliasRt7
    | bltzAliasRt8 | bgezAliasRt9 | bltzAliasRt10 | bgezAliasRt11 | bltzAliasRt12 | bgezAliasRt13 | bltzAliasRt14
    | bgezAliasRt15 | bltzal | bgezal | bltzAliasRt18 | bgezAliasRt19 | bltzAliasRt20 | bgezAliasRt21 | bltzAliasRt22
    | bgezAliasRt23 | bltzAliasRt24 | bgezAliasRt25 | bltzAliasRt26 | bgezAliasRt27 | bltzAliasRt28 | bgezAliasRt29
    | bltzAliasRt30 | bgezAliasRt31 =>
    rw [encode, decode_regimm (opField_iWord ..), decodeRegimm, rtField_iWord, rsField_iWord, immField_iWord]
    rfl
  | j | jal | cop1 | cop3 =>
    rw [encode, decode, opField_jWord, targetField_jWord]
    rfl
  | beq | bne | blez | bgtz | addi | addiu | slti | sltiu | andi | ori | xori | lui | lb | lh | lwl | lw | lbu | lhu
    | lwr | sb | sh | swl | sw | swr | lwc0 | lwc1 | lwc2 | lwc3 | swc0 | swc1 | swc2 | swc3 =>
    rw [encode, decode, opField_iWord, rsField_iWord, rtField_iWord, immField_iWord]
    rfl
  | mfc0 | cfc0 | mtc0 | ctc0 =>
    rw [encode, decode_cop0 (opField_rWord ..), decodeCop0, rsField_rWord, rtField_rWord, rdField_rWord]
    rfl
  | mfc2 | cfc2 | mtc2 | ctc2 =>
    rw [encode, decode_cop2 (opField_rWord ..), decodeCop2, rsField_rWord, rtField_rWord, rdField_rWord]
    rfl
  | bc0f | bc0t =>
    rw [encode, decode_cop0 (opField_iWord ..), decodeCop0, rsField_iWord, condField_iWord, immField_iWord]
    rfl
  | bc2f | bc2t =>
    rw [encode, decode_cop2 (opField_iWord ..), decodeCop2, rsField_iWord, condField_iWord, immField_iWord]
    rfl
  | cop2 cofun =>
    have hfn : rsField (cofunWord Op.cop2 cofun) &&& 0x10 = 0x10 := by
      rw [rsField_cofunWord]
      generalize cofun.extractLsb' 21 4 = c
      revert c
      decide
    rw [encode, decode_cop2 (opField_cofunWord ..), decodeCop2_command hfn, cofunField_cofunWord]
  | _ => rfl

/-- A word's bytes in memory order make up the word (R69). -/
theorem wordOfBytes_extractLsb' (w : Word) :
    wordOfBytes (w.extractLsb' 0 8) (w.extractLsb' 8 8) (w.extractLsb' 16 8) (w.extractLsb' 24 8) = w := by
  apply BitVec.eq_of_getLsbD_eq
  intro i h
  simp only [wordOfBytes, BitVec.getLsbD_append, BitVec.getLsbD_extractLsb']
  interval_cases i <;> rfl

theorem decodeBytes_bytesOfWord (w : Word) (rest : List Byte) :
    decodeBytes (bytesOfWord w ++ rest) = .ok (decode w, rest) := by
  simp only [bytesOfWord, List.cons_append, List.nil_append, decodeBytes, wordOfBytes_extractLsb']

/-- Settles O1: the round trip of the word, read from its four bytes. -/
theorem decodeOfEncode : Obligations.DecodeOfEncode := fun i rest =>
  ⟨decode_encode i, by rw [encodeBytes, decodeBytes_bytesOfWord, decode_encode]⟩

end Sys2Proof
end

section
/-!
SUPPORT. The rows of the opcode table exclude each other, and the bits that a row ignores do not matter.
-/

namespace Sys2Proof
open Sys2Proof.Machine Sys2Proof.Claims

/-! ## The rows exclude each other (R118)

Each map's rows have one mask, and its rows are told apart by the field that the mask fixes. -/

section
variable {w w' : Word}

theorem rowOf_decodeSpecial (w : Word) : (rowOf (decodeSpecial w)).mask = 0xFC00003F ∧
    ∀ w', functField w' = functField w → rowOf (decodeSpecial w') = rowOf (decodeSpecial w) := by
  rw [decodeSpecial.eq_def w]
  split
  case h_64 =>
    have hf : functField w = 0x3F#6 := eq_last_of_ne (by intro n hn; interval_cases n <;> assumption)
    exact ⟨rfl, fun w' hf' => by rw [decodeSpecial, hf', hf]; rfl⟩
  all_goals
    rename_i hf
    exact ⟨rfl, fun w' hf' => by rw [decodeSpecial, hf', hf]; rfl⟩

theorem rowOf_decodeRegimm (w : Word) : (rowOf (decodeRegimm w)).mask = 0xFC1F0000 ∧
    ∀ w', rtField w' = rtField w → rowOf (decodeRegimm w') = rowOf (decodeRegimm w) := by
  rw [decodeRegimm.eq_def w]
  split
  case h_32 =>
    have hrt : rtField w = 0x1F#5 := eq_last_of_ne (by intro n hn; interval_cases n <;> assumption)
    exact ⟨rfl, fun w' hrt' => by rw [decodeRegimm, hrt', hrt]; rfl⟩
  all_goals
    rename_i hrt
    exact ⟨rfl, fun w' hrt' => by rw [decodeRegimm, hrt', hrt]; rfl⟩

theorem rowOf_decodeCop0Function (w : Word) : (rowOf (decodeCop0Function w)).mask = 0xFE00003F ∧
    ∀ w', functField w' = functField w → rowOf (decodeCop0Function w') = rowOf (decodeCop0Function w) := by
  rw [decodeCop0Function.eq_def w]
  split
  case h_64 =>
    have hf : functField w = 0x3F#6 := eq_last_of_ne (by intro n hn; interval_cases n <;> assumption)
    exact ⟨rfl, fun w' hf' => by rw [decodeCop0Function, hf', hf]; rfl⟩
  all_goals
    rename_i hf
    exact ⟨rfl, fun w' hf' => by rw [decodeCop0Function, hf', hf]; rfl⟩

/-- rs alone selects the form: it is neither a function form nor a branch. -/
abbrev selectedByRs (rs : RegNum) : Prop := rs &&& 0x10 ≠ 0x10 ∧ rs ≠ 8#5

theorem rowOf_decodeCop0_of_rs (h : selectedByRs (rsField w)) : (rowOf (decodeCop0 w)).mask = 0xFFE00000 ∧
    ∀ w', rsField w' = rsField w → rowOf (decodeCop0 w') = rowOf (decodeCop0 w) := by
  obtain ⟨hfn, hbr⟩ := h
  rw [decodeCop0.eq_def w]
  split
  case h_9 hrs => exact absurd hrs hbr
  case h_17 => exact absurd (isFunction_of_ne (by intro n hn; interval_cases n <;> assumption)) hfn
  all_goals
    rename_i hrs
    exact ⟨rfl, fun w' hrs' => by rw [decodeCop0, hrs', hrs]; rfl⟩

theorem rowOf_decodeCop2_of_rs (h : selectedByRs (rsField w)) : (rowOf (decodeCop2 w)).mask = 0xFFE00000 ∧
    ∀ w', rsField w' = rsField w → rowOf (decodeCop2 w') = rowOf (decodeCop2 w) := by
  obtain ⟨hfn, hbr⟩ := h
  rw [decodeCop2.eq_def w]
  split
  case h_9 hrs => exact absurd hrs hbr
  case h_17 => exact absurd (isFunction_of_ne (by intro n hn; interval_cases n <;> assumption)) hfn
  all_goals
    rename_i hrs
    exact ⟨rfl, fun w' hrs' => by rw [decodeCop2, hrs', hrs]; rfl⟩

/-- The opcode selects one instruction: it is not the opcode of a map. -/
abbrev selectedByOp (op : Opcode) : Prop := op ∉ [Op.special, Op.regimm, Op.cop0, Op.cop2]

theorem rowOf_decode_of_op (h : selectedByOp (opField w)) : (rowOf (decode w)).mask = 0xFC000000 ∧
    ∀ w', opField w' = opField w → rowOf (decode w') = rowOf (decode w) := by
  rw [decode.eq_def w]
  split
  case h_1 hop | h_2 hop | h_17 hop | h_19 hop => exact absurd (hop ▸ by decide) h
  case h_64 =>
    have hop : opField w = 0x3F#6 := eq_last_of_ne (by intro n hn; interval_cases n <;> assumption)
    exact ⟨rfl, fun w' hop' => by rw [decode, hop', hop]; rfl⟩
  all_goals
    rename_i hop
    exact ⟨rfl, fun w' hop' => by rw [decode, hop', hop]; rfl⟩

theorem decodeCop0_branch (hrs : rsField w = 8#5) :
    decodeCop0 w = if condField w then .bc0t (immField w) else .bc0f (immField w) := by
  rw [decodeCop0, hrs]; rfl

theorem mask_decodeCop0_branch (hrs : rsField w = 8#5) : (rowOf (decodeCop0 w)).mask = 0xFFE10000 := by
  rw [decodeCop0_branch hrs]
  split <;> rfl

theorem decodeCop2_branch (hrs : rsField w = 8#5) :
    decodeCop2 w = if condField w then .bc2t (immField w) else .bc2f (immField w) := by
  rw [decodeCop2, hrs]; rfl

theorem mask_decodeCop2_branch (hrs : rsField w = 8#5) : (rowOf (decodeCop2 w)).mask = 0xFFE10000 := by
  rw [decodeCop2_branch hrs]
  split <;> rfl

theorem op_rs_of_and (h : w' &&& 0xFFE00000 = w &&& 0xFFE00000) : opField w' = opField w ∧ rsField w' = rsField w := by
  rw [and_ffe00000, and_ffe00000] at h
  exact ⟨by simpa using congrArg opField h, by simpa using congrArg rsField h⟩

theorem op_rs_cond_of_and (h : w' &&& 0xFFE10000 = w &&& 0xFFE10000) :
    opField w' = opField w ∧ rsField w' = rsField w ∧ condField w' = condField w := by
  have hc : condField w' = condField w := by simpa [condField] using congrArg (fun x => x.getLsbD 16) h
  rw [and_ffe10000, and_ffe10000] at h
  exact ⟨by simpa using congrArg opField h, by simpa using congrArg rsField h, hc⟩

/-! Words that agree under the mask of the row of one of them lie in that row. -/

theorem rowOf_decodeSpecial_of_and (hop : opField w = Op.special)
    (h : w' &&& (rowOf (decodeSpecial w)).mask = w &&& (rowOf (decodeSpecial w)).mask) :
    rowOf (decode w') = rowOf (decodeSpecial w) := by
  obtain ⟨hmask, hrow⟩ := rowOf_decodeSpecial w
  rw [hmask, and_fc00003f, and_fc00003f] at h
  have hop' : opField w' = opField w := by simpa using congrArg opField h
  have hf : functField w' = functField w := by simpa using congrArg functField h
  rw [decode_special (hop'.trans hop), hrow w' hf]

theorem rowOf_decodeRegimm_of_and (hop : opField w = Op.regimm)
    (h : w' &&& (rowOf (decodeRegimm w)).mask = w &&& (rowOf (decodeRegimm w)).mask) :
    rowOf (decode w') = rowOf (decodeRegimm w) := by
  obtain ⟨hmask, hrow⟩ := rowOf_decodeRegimm w
  rw [hmask, and_fc1f0000, and_fc1f0000] at h
  have hop' : opField w' = opField w := by simpa using congrArg opField h
  have hrt : rtField w' = rtField w := by simpa using congrArg rtField h
  rw [decode_regimm (hop'.trans hop), hrow w' hrt]

theorem rowOf_decodeCop0_of_and (hop : opField w = Op.cop0)
    (h : w' &&& (rowOf (decodeCop0 w)).mask = w &&& (rowOf (decodeCop0 w)).mask) :
    rowOf (decode w') = rowOf (decodeCop0 w) := by
  by_cases hfn : rsField w &&& 0x10 = 0x10
  · obtain ⟨hmask, hrow⟩ := rowOf_decodeCop0Function w
    rw [decodeCop0_function hfn] at h ⊢
    rw [hmask, and_fe00003f, and_fe00003f] at h
    have hop' : opField w' = opField w := by simpa using congrArg opField h
    have hfn' : rsField w' &&& 0x10 = rsField w &&& 0x10 := by simpa using congrArg rsField h
    have hf : functField w' = functField w := by simpa using congrArg functField h
    rw [decode_cop0 (hop'.trans hop), decodeCop0_function (hfn'.trans hfn), hrow w' hf]
  by_cases hbr : rsField w = 8#5
  · rw [mask_decodeCop0_branch hbr] at h
    obtain ⟨hop', hrs, hc⟩ := op_rs_cond_of_and h
    rw [decode_cop0 (hop'.trans hop), decodeCop0_branch (hrs.trans hbr), decodeCop0_branch hbr, hc]
    split <;> rfl
  · obtain ⟨hmask, hrow⟩ := rowOf_decodeCop0_of_rs ⟨hfn, hbr⟩
    rw [hmask] at h
    obtain ⟨hop', hrs⟩ := op_rs_of_and h
    rw [decode_cop0 (hop'.trans hop), hrow w' hrs]

theorem rowOf_decodeCop2_of_and (hop : opField w = Op.cop2)
    (h : w' &&& (rowOf (decodeCop2 w)).mask = w &&& (rowOf (decodeCop2 w)).mask) :
    rowOf (decode w') = rowOf (decodeCop2 w) := by
  by_cases hfn : rsField w &&& 0x10 = 0x10
  · rw [decodeCop2_command hfn] at h ⊢
    have h : w' &&& 0xFE000000 = w &&& 0xFE000000 := h
    rw [and_fe000000, and_fe000000] at h
    have hop' : opField w' = opField w := by simpa using congrArg opField h
    have hfn' : rsField w' &&& 0x10 = rsField w &&& 0x10 := by simpa using congrArg rsField h
    rw [decode_cop2 (hop'.trans hop), decodeCop2_command (hfn'.trans hfn)]
    rfl
  by_cases hbr : rsField w = 8#5
  · rw [mask_decodeCop2_branch hbr] at h
    obtain ⟨hop', hrs, hc⟩ := op_rs_cond_of_and h
    rw [decode_cop2 (hop'.trans hop), decodeCop2_branch (hrs.trans hbr), decodeCop2_branch hbr, hc]
    split <;> rfl
  · obtain ⟨hmask, hrow⟩ := rowOf_decodeCop2_of_rs ⟨hfn, hbr⟩
    rw [hmask] at h
    obtain ⟨hop', hrs⟩ := op_rs_of_and h
    rw [decode_cop2 (hop'.trans hop), hrow w' hrs]

theorem rowOf_decode_of_and (h : w' &&& (rowOf (decode w)).mask = w &&& (rowOf (decode w)).mask) :
    rowOf (decode w') = rowOf (decode w) := by
  by_cases hs : opField w = Op.special
  · rw [decode_special hs] at h ⊢
    exact rowOf_decodeSpecial_of_and hs h
  by_cases hr : opField w = Op.regimm
  · rw [decode_regimm hr] at h ⊢
    exact rowOf_decodeRegimm_of_and hr h
  by_cases h0 : opField w = Op.cop0
  · rw [decode_cop0 h0] at h ⊢
    exact rowOf_decodeCop0_of_and h0 h
  by_cases h2 : opField w = Op.cop2
  · rw [decode_cop2 h2] at h ⊢
    exact rowOf_decodeCop2_of_and h2 h
  · obtain ⟨hmask, hrow⟩ := rowOf_decode_of_op (w := w) (by simp [selectedByOp, hs, hr, h0, h2])
    rw [hmask, and_fc000000, and_fc000000] at h
    exact hrow w' (by simpa using congrArg opField h)

end

/-- Settles O4: another row that the word matches is the row of an encoded instruction, which decodes to the same row. -/
theorem everyWordHasOneRow : Obligations.EveryWordHasOneRow := by
  refine fun w => ⟨(reads_decode w).matched, fun i hi => ?_⟩
  have hself := (reads_decode (encode i)).matched
  have hrow := rowOf_decode_of_and (w := encode i) (w' := w)
  rw [decode_encode] at hself hrow
  exact (hrow (hi.trans hself.symm)).symm

/-- A row reads the bits of its mask. -/
theorem usedBits_and_mask (i : Instr) : usedBits i &&& (rowOf i).mask = (rowOf i).mask := by
  apply BitVec.eq_of_getLsbD_eq
  intro n hn
  rw [usedBits, BitVec.getLsbD_and, BitVec.getLsbD_or]
  cases (rowOf i).mask.getLsbD n <;> simp

/-- Settles O3: the two words lie in one row, so they are encoded to the same word. -/
theorem ignoredBitsDoNotMatter : Obligations.IgnoredBitsDoNotMatter := by
  intro w w' h
  have hrow : rowOf (decode w') = rowOf (decode w) := rowOf_decode_of_and (by
    rw [← usedBits_and_mask, ← BitVec.and_assoc, ← BitVec.and_assoc, h])
  have hused : usedBits (decode w') = usedBits (decode w) := by rw [usedBits, hrow, usedBits]
  have hword : encode (decode w') = encode (decode w) :=
    calc encode (decode w') = w' &&& usedBits (decode w') := (reads_decode w').encoded
      _ = w &&& usedBits (decode w) := by rw [hused, h]
      _ = encode (decode w) := (reads_decode w).encoded.symm
  rw [← decode_encode (decode w'), hword, decode_encode]

end Sys2Proof
end

section
/-!
SUPPORT. Words written out, and the reserved instructions.
-/

namespace Sys2Proof
open Sys2Proof.Machine Sys2Proof.Claims

/-- Settles O5, word by word. -/
theorem sampleWordsDecode : Obligations.SampleWordsDecode := by
  exact ⟨rfl, rfl, rfl, rfl, rfl, rfl, rfl, rfl, rfl, rfl, rfl, rfl, rfl⟩

theorem exec_reserved {i : Instr} (h : i ∈ reservedInstrs) (s : State) : exec i s = raise .ri (opcodeOf i) s := by
  unfold reservedInstrs at h
  fin_cases h <;> rfl

/-- Settles O35: each is the trap that `raise` takes, with the opcode of its own word. -/
theorem reservedInstructionsTrap : Obligations.ReservedInstructionsTrap := fun s _ hi =>
  ⟨_, exec_reserved hi s, trapEntry_traps s .ri _⟩

end Sys2Proof
end

section
/-!
SUPPORT. The step: its fetch check and its fetch, the trap it may take instead of an instruction, and runs of steps.
-/

namespace Sys2Proof
open Sys2Proof.Machine Sys2Proof.Claims

/-! ## The r0 re-zero is seen by no later part of a step (R131) -/

theorem loadLine_zeroR0 (pc : Word) (s : State) (ks : List (BitVec 2)) (c : ICache) :
    loadLine pc s.zeroR0 ks c = loadLine pc s ks c := by
  induction ks generalizing c with
  | nil => rfl
  | cons k ks ih =>
    have hword : iFetch32 (phys (lineWord pc k)) s.zeroR0 = iFetch32 (phys (lineWord pc k)) s := rfl
    rw [loadLine, loadLine, hword]
    split
    · rfl
    · exact ih _

theorem refill_zeroR0 (pc : Word) (s : State) : refill pc s.zeroR0 = refill pc s := loadLine_zeroR0 ..

theorem iFetch_zeroR0 {s s' : State} {w : Word} (h : iFetch s = .ok (w, s')) : iFetch s.zeroR0 = .ok (w, s'.zeroR0) := by
  unfold iFetch at h ⊢
  dsimp only at h ⊢
  split_ifs at h with hhit hcached
  · cases h
    exact if_pos hhit
  · refine (if_neg hhit).trans ((if_pos hcached).trans ?_)
    rw [zeroR0_pc, refill_zeroR0]
    split at h <;> cases h
    rfl
  · refine (if_neg hhit).trans ((if_neg hcached).trans ?_)
    rw [show iFetch32 (phys s.zeroR0.pc) s.zeroR0 = iFetch32 (phys s.pc) s from rfl]
    split at h <;> cases h
    rfl

theorem committed_zeroR0 (s : State) (q : RegNum) : committed s.zeroR0 q = committed s q := by
  unfold committed
  rw [zeroR0_ld, zeroR0_reg]

/-- What a trap taken on the fetched state leaves of the state before the step: the r0 re-zero and the fetch do not show in it. -/
theorem trapEntry_fetched (s : State) (c : ICache) (e : Exc) (ce : BitVec 2) {t : State}
    (ht : t = (State.zeroR0 { s with ic := c }).trapEntry e ce) :
    TrapWrites s t (excCode e) ce (offending e) ∧ SameHiLo s t ∧ SameDebug s t ∧ SameMemory s t ∧ SameOutside s t := by
  subst ht
  refine ⟨?_, ⟨rfl, rfl⟩, ⟨rfl, rfl, rfl, rfl, rfl, rfl⟩, ⟨fun _ => rfl, fun _ => rfl⟩, ⟨rfl, rfl, rfl, rfl, rfl⟩⟩
  have h := trapEntry_writes (State.zeroR0 { s with ic := c }) e ce
  exact { h with regs := fun q => (h.regs q).trans (committed_zeroR0 _ q) }

/-! ## The fetch check (R133) -/

/-- The fetch check is the load check of a word at pc. -/
theorem fetchFault_eq (s : State) : s.fetchFault = (!aligned 4 s.pc || !allowed s s.pc) := by
  have hal := misaligned_eq_not_aligned s.pc (w := 4) (by decide)
  have hk : s.ksegFault s.pc = !allowed s s.pc := (Bool.not_not _).symm
  rw [← hal, ← hk]
  rfl

/-- Past the check and the fetch, the step is the dispatch of the fetched word, and then the clock (R130). -/
theorem step_of_fetched {s s' : State} {w : Word} (hal : aligned 4 s.pc = true) (hk : allowed s s.pc = true)
    (hf : iFetch s = .ok (w, s')) : step s = tickOut (dispatch w s'.zeroR0) := by
  have hok : s.zeroR0.fetchFault = false := (fetchFault_eq s).trans (by rw [hal, hk]; rfl)
  rw [step, cycle, fetchAndDispatch, hok, iFetch_zeroR0 hf]
  rfl

/-- A fetch changes nothing that an interrupt depends on. -/
theorem fetched_intPending {s s' : State} {w : Word} (hf : iFetch s = .ok (w, s')) :
    s'.zeroR0.intPending = true ↔ interrupted s := by
  obtain ⟨c, rfl⟩ := iFetch_state hf
  exact intPending_iff s

/-! ## The three ways a step goes -/

/-- Settles O6: the fetch of the zeroed state is the zeroed fetch, and without an interrupt the dispatch is `exec`. -/
theorem stepRunsDecodedInstruction : Obligations.StepRunsDecodedInstruction := by
  intro s s' w i hal hk hf hw hint
  have hstep : step s = tickOut (exec i s'.zeroR0) := by
    rw [step_of_fetched hal hk hf, dispatch, if_neg fun h => hint ((fetched_intPending hf).1 h), hw]
  obtain ⟨c, rfl⟩ := iFetch_state hf
  exact ⟨rfl, fun t ht => by rw [hstep, ht]; rfl, fun r hr => by rw [hstep, hr]; rfl⟩

/-- Settles O7: the trap is taken on the state with r0 zeroed. -/
theorem fetchAddressErrorTraps : Obligations.FetchAddressErrorTraps := by
  intro s h
  have hfault : s.zeroR0.fetchFault = true := (fetchFault_eq s).trans (by simpa using h)
  refine ⟨s.zeroR0.trapEntry (.adEL s.pc) 0, by rw [step, cycle, fetchAndDispatch, hfault]; rfl, ?_⟩
  obtain ⟨hwrites, hhilo, hdebug, hmem, hout⟩ := trapEntry_fetched s s.ic (.adEL s.pc) 0 rfl
  exact ⟨hwrites, hhilo, hdebug, ⟨rfl, fun _ => rfl⟩, hmem, hout, rfl⟩

theorem takeInterrupt_refused {w : Word} {s : State} (h : refusedCommand s w = true) :
    takeInterrupt w s = .refused .gteInterrupted := if_pos h

theorem takeInterrupt_trap {w : Word} {s : State} (h : refusedCommand s w = false) :
    takeInterrupt w s = .next (s.trapEntry .int (ceField w)) := if_neg (Bool.eq_false_iff.1 h)

/-- Settles O8: the trap is taken on the fetched state, unless the parameter refuses the command that was fetched. -/
theorem interruptPreempts : Obligations.InterruptPreempts := by
  intro s s' w hal hk hf hint
  have hstep : step s = tickOut (takeInterrupt w s'.zeroR0) := by
    rw [step_of_fetched hal hk hf, dispatch, if_pos ((fetched_intPending hf).2 hint)]
  obtain ⟨c, rfl⟩ := iFetch_state hf
  have hcommand : refusedCommand (State.zeroR0 { s with ic := c }) w = refusedCommand s w := rfl
  constructor
  · intro hr
    rw [hstep, takeInterrupt_refused (hcommand.trans hr)]
    rfl
  · intro hr
    obtain ⟨hwrites, hhilo, hdebug, hmem, hout⟩ := trapEntry_fetched s c .int (ceField w) rfl
    exact ⟨_, by rw [hstep, takeInterrupt_trap (hcommand.trans hr)]; rfl, hwrites, hhilo, hdebug, hmem, hout, rfl, rfl, rfl⟩

/-! ## Runs (R146, R147, R151) -/

/-- What `k` whole steps leave of the state no instruction touches: the step count tells them, time does not run back. -/
structure RunKeeps (k : Nat) (s t : State) : Prop where
  draws : t.draws = s.draws + k
  params : t.params = s.params
  prid : t.prid = s.prid
  ppu : t.ppu = s.ppu
  timestamp : s.timestamp ≤ t.timestamp

theorem step_runKeeps {s t : State} (h : step s = .next t) : RunKeeps 1 s t := by
  obtain ⟨u, hu, rfl⟩ := step_next h
  obtain ⟨hdraws, hparams, hprid, hppu, htime⟩ := fetchAndDispatch_keeps hu
  exact ⟨congrArg (· + 1) hdraws, hparams, hprid, hppu, htime ▸ Nat.le_add_right _ _⟩

theorem RunKeeps.trans {j k : Nat} {s t u : State} (h : RunKeeps j s t) (h' : RunKeeps k t u) : RunKeeps (j + k) s u where
  draws := by rw [h'.draws, h.draws, Nat.add_assoc]
  params := h'.params.trans h.params
  prid := h'.prid.trans h.prid
  ppu := h'.ppu.trans h.ppu
  timestamp := h.timestamp.trans h'.timestamp

theorem runSteps_succ {s u : State} (h : step s = .next u) (k : Nat) : runSteps (k + 1) s = runSteps k u := by
  rw [runSteps, h]

/-- A run of one step or more makes its first step and goes on from there. -/
theorem runSteps_succ_next {k : Nat} {s t : State} (h : runSteps (k + 1) s = .next t) :
    ∃ u, step s = .next u ∧ runSteps k u = .next t := by
  rw [runSteps] at h
  split at h
  · exact ⟨_, ‹_›, h⟩
  · cases h
  · cases h

theorem runSteps_keeps {k : Nat} {s t : State} (h : runSteps k s = .next t) : RunKeeps k s t := by
  induction k generalizing s with
  | zero => cases h; exact ⟨rfl, rfl, rfl, rfl, le_rfl⟩
  | succ k ih =>
    obtain ⟨u, hu, hrun⟩ := runSteps_succ_next h
    rw [Nat.add_comm]
    exact (step_runKeeps hu).trans (ih hrun)

section
variable {stop : List Word} {s : State}

theorem atStop_iff : Safety.atStop stop s = true ↔ s.pc ∈ stop := List.contains_iff_mem

theorem runToStop_of_atStop (h : Safety.atStop stop s = true) (n : Nat) : Safety.runToStop stop n s = .next s := by
  cases n with
  | zero => rfl
  | succ n => rw [Safety.runToStop, if_pos h]

theorem runToStop_succ {u : State} (h : Safety.atStop stop s = false) (hu : step s = .next u) (n : Nat) :
    Safety.runToStop stop (n + 1) s = Safety.runToStop stop n u := by
  rw [Safety.runToStop, if_neg (Bool.eq_false_iff.1 h), hu]

/-- A run outside STOP makes its first step and goes on from there. -/
theorem runToStop_succ_next {n : Nat} {t : State} (h : Safety.atStop stop s = false)
    (hrun : Safety.runToStop stop (n + 1) s = .next t) :
    ∃ u, step s = .next u ∧ Safety.runToStop stop n u = .next t := by
  rw [Safety.runToStop, if_neg (Bool.eq_false_iff.1 h)] at hrun
  split at hrun
  · exact ⟨_, ‹_›, hrun⟩
  · cases hrun
  · cases hrun

/-- The steps a run has made: each but the last state stood outside STOP, and the last stands in it if steps were left. -/
theorem runToStop_steps {n : Nat} {t : State} (h : Safety.runToStop stop n s = .next t) :
    ∃ k ≤ n, runSteps k s = .next t ∧
      (∀ j < k, ∃ u v, runSteps j s = .next u ∧ u.pc ∉ stop ∧ step u = .next v ∧ runSteps (j + 1) s = .next v) ∧
      (k < n → t.pc ∈ stop) := by
  induction n generalizing s with
  | zero => cases h; exact ⟨0, le_rfl, rfl, fun _ hj => absurd hj (Nat.not_lt_zero _), fun hk => absurd hk (Nat.not_lt_zero _)⟩
  | succ n ih =>
    cases hs : Safety.atStop stop s with
    | true =>
      rw [runToStop_of_atStop hs] at h
      cases h
      exact ⟨0, Nat.zero_le _, rfl, fun _ hj => absurd hj (Nat.not_lt_zero _), fun _ => atStop_iff.1 hs⟩
    | false =>
      obtain ⟨u, hu, hrun⟩ := runToStop_succ_next hs h
      obtain ⟨k, hk, hsteps, hbefore, hend⟩ := ih hrun
      refine ⟨k + 1, Nat.succ_le_succ hk, (runSteps_succ hu k).trans hsteps, fun j hj => ?_,
        fun hlt => hend (Nat.lt_of_succ_lt_succ hlt)⟩
      cases j with
      | zero =>
        exact ⟨s, u, rfl, fun hmem => Bool.eq_false_iff.1 hs (atStop_iff.2 hmem), hu, runSteps_succ hu 0⟩
      | succ j =>
        rw [runSteps_succ hu, runSteps_succ hu]
        exact hbefore j (Nat.lt_of_succ_lt_succ hj)

/-- Going on from where a run ended is the longer run. -/
theorem runToStop_add {n : Nat} {t : State} (h : Safety.runToStop stop n s = .next t) (m : Nat) :
    Safety.runToStop stop (n + m) s = Safety.runToStop stop m t := by
  induction n generalizing s with
  | zero => cases h; rw [Nat.zero_add]
  | succ n ih =>
    cases hs : Safety.atStop stop s with
    | true =>
      rw [runToStop_of_atStop hs] at h
      cases h
      rw [runToStop_of_atStop hs, runToStop_of_atStop hs]
    | false =>
      obtain ⟨u, hu, hrun⟩ := runToStop_succ_next hs h
      rw [Nat.succ_add, runToStop_succ hs hu]
      exact ih hrun

end

/-- Settles O10: the steps of the run, what they keep, and how runs compose. -/
theorem runEndsAtStop : Obligations.RunEndsAtStop := by
  intro stop n s t h
  obtain ⟨k, hk, hsteps, hbefore, hend⟩ := runToStop_steps h
  obtain ⟨hdraws, hparams, hprid, hppu, htime⟩ := runSteps_keeps hsteps
  exact ⟨⟨k, hk, hdraws, hsteps, hbefore, hend⟩, hparams, hprid, hppu, htime, runToStop_add h⟩

end Sys2Proof
end

section
/-!
SUPPORT. The pending load and the delay slot, over all instructions.
-/

namespace Sys2Proof
open Sys2Proof.Machine Sys2Proof.Claims

/-! ## The pending load (R135, R136, R138) -/

theorem commitLoad_commits (s : State) : Commits s s.commitLoad := ⟨commitLoad_reg s, rfl⟩

/-- A load-delayed result, whatever the agents outside were asked for it. -/
theorem loadDelayed_delays (s : State) (ev : List Event) (r : RegNum) (v : Word) :
    DelaysLoad s (State.loadDelayed { s with events := ev } r v).advance r v where
  regs q := by rw [advance_reg, loadDelayed_reg, commitLoad_reg]; rfl
  ld := rfl

/-- Settles O9, by the inversion of `exec`: every outcome but a load's commits, and the ones that then write a register write
the result register. -/
theorem pendingLoadLastsOneInstruction : Obligations.PendingLoadLastsOneInstruction := by
  intro i s t h
  have hregs := (commitLoad_commits s).regs
  cases exec_did h with
  | loaded r v ev hr => exact .inr ⟨r, v, hr, loadDelayed_delays s ev r v⟩
  | result r v hr =>
    refine .inl ⟨rfl, fun q hq => ?_⟩
    rw [advance_reg, reg_setReg, if_neg fun hqr => hq (hr.trans (congrArg some hqr.1.symm)), hregs]
  | linked r c a _ hr =>
    refine .inl ⟨rfl, fun q hq => ?_⟩
    rw [delayBranch_reg, link, reg_setReg, if_neg fun hqr => hq (hr.trans (congrArg some hqr.1.symm)), hregs]
  | stored a n v ev s' _ _ hw =>
    obtain ⟨⟨hregs', hld⟩, -⟩ := memWrite_storeFrame hw
    exact .inl ⟨hld, fun q _ => hregs' q⟩
  | trap | hiLo | nothing | branched | asked | movedToCop0 | returned => exact .inl ⟨rfl, fun q _ => hregs q⟩

/-! ## Delay slots (R143) -/

theorem cop2Usable_eq (s : State) : cop2Usable s = s.copUsable 2 := rfl

/-- A coprocessor branch in a delay slot is refused where the coprocessor is usable. -/
theorem requireCop_branch_refused {s : State} {z : BitVec 2} (hu : s.copUsable z = true) (hbd : s.bd = true) (op : Opcode)
    (c : Bool) (a : Word) (f : State → State) : requireCop z op s (branch c a f s) = .refused .branchInDelaySlot :=
  (requireCop_usable hu ..).trans (branch_refused hbd ..)

/-- Settles O27, constructor by constructor: each of the forty-four ends in `branch`. -/
theorem branchInDelaySlotRefused : Obligations.BranchInDelaySlotRefused := by
  intro i s hi hbd h0 h2
  cases i with
  | bc0f imm | bc0t imm => exact requireCop_branch_refused (z := 0) (h0 (opField_iWord ..)) hbd ..
  | bc2f imm | bc2t imm => exact requireCop_branch_refused (z := 2) (h2 (opField_iWord ..)) hbd ..
  | j | jal | jr | jalr | beq | bne | blez | bgtz | bltz | bgez | bltzAliasRt2 | bgezAliasRt3 | bltzAliasRt4 | bgezAliasRt5
    | bltzAliasRt6 | bgezAliasRt7 | bltzAliasRt8 | bgezAliasRt9 | bltzAliasRt10 | bgezAliasRt11 | bltzAliasRt12
    | bgezAliasRt13 | bltzAliasRt14 | bgezAliasRt15 | bltzal | bgezal | bltzAliasRt18 | bgezAliasRt19 | bltzAliasRt20
    | bgezAliasRt21 | bltzAliasRt22 | bgezAliasRt23 | bltzAliasRt24 | bgezAliasRt25 | bltzAliasRt26 | bgezAliasRt27
    | bltzAliasRt28 | bgezAliasRt29 | bltzAliasRt30 | bgezAliasRt31 => exact branch_refused hbd ..
  | _ => nomatch hi

end Sys2Proof
end

section
/-!
SUPPORT. The register-dump interface.
-/

namespace Sys2Proof
open Sys2Proof.Machine Sys2Proof.Claims

/-- A read of the interface shows the register it names (R49, R358). -/
theorem hostRead_eq_dumped (r : HostReg) (s : State) : hostRead r s = dumped s r := by
  cases r with
  | cop0 n =>
    obtain ⟨n, hn, rfl⟩ := exists_eq_ofNat n
    interval_cases n <;> rfl
  | ppuMode =>
    unfold hostRead dumped
    cases s.ppu.mode <;> rfl
  | gpr | pc | hi | lo | ppuLy | ppuXpos => rfl

/-- A write of the interface changes the register it names (R148). -/
theorem hostWrite_takes (r : HostReg) (v : Word) (s : State) : TakesRegister s (hostWrite r v s) r v := by
  cases r with
  | gpr n => exact ⟨rfl, reg_setReg s n v⟩
  | cop0 n =>
    obtain ⟨n, hn, rfl⟩ := exists_eq_ofNat n
    interval_cases n <;> rfl
  | pc | hi | lo | ppuLy | ppuXpos | ppuMode => rfl

/-- Settles O60: both calls look the id up and then read or write the register it names. -/
theorem registerAccess : Obligations.RegisterAccess := by
  intro id v s
  constructor
  · intro h
    rw [getRegister, setRegister, registerOf, h]
    exact ⟨rfl, rfl⟩
  · intro r h
    rw [getRegister, setRegister, registerOf, h]
    exact ⟨congrArg _ (hostRead_eq_dumped r s), _, rfl, hostWrite_takes r v s, intPending_iff _⟩

end Sys2Proof
end

section
/-!
SUPPORT. What a data read answers, and the two loads that merge into the value their register is about to have.
-/

namespace Sys2Proof
open Sys2Proof.Machine Sys2Proof.Claims

/-! ## Ignored bits (R116) -/

/-- What stands in the bits an instruction ignores does not change how its word decodes. -/
theorem ignoresTheRest_encode (i : Instr) : ignoresTheRest i := by
  intro junk
  have hagree : (encode i ||| (junk &&& ~~~usedBits i)) &&& usedBits i = encode i &&& usedBits i := by
    apply BitVec.eq_of_getLsbD_eq
    intro n hn
    simp only [BitVec.getLsbD_or, BitVec.getLsbD_and, BitVec.getLsbD_not, hn, decide_true, Bool.true_and]
    cases (usedBits i).getLsbD n <;> simp
  refine (ignoredBitsDoNotMatter (encode i) _ ?_).trans (decode_encode i)
  rwa [decode_encode]

/-! ## The answer of a data read (R65 to R69) -/

/-- A value with no bit at 8n or above fits in n bytes. -/
theorem toNat_lt_of_getLsbD {m : Word} {b : Nat} (h : ∀ i, b ≤ i → m.getLsbD i = false) : m.toNat < 2 ^ b :=
  Nat.lt_pow_two_of_testBit _ fun i hi => (BitVec.testBit_toNat m).trans (h i hi)

theorem readLE_toNat_lt {w : Nat} (m : Memory) (p : BitVec w) (n : Nat) : (m.readLE p n).toNat < 2 ^ (8 * n) :=
  toNat_lt_of_getLsbD fun i hi => by rw [Memory.getLsbD_readLE]; simp [Nat.not_lt.2 hi]

theorem lowBytes_toNat_lt (n : Nat) (v : Word) : (lowBytes n v).toNat < 2 ^ (8 * n) :=
  toNat_lt_of_getLsbD fun i hi => by simp [lowBytes, Nat.not_lt.2 hi]

/-- A read that does not wrap around its memory, byte by byte (R69). -/
theorem extractLsb'_readLE {w : Nat} (m : Memory) {p : BitVec w} {n k : Nat} (hp : p.toNat + n ≤ 2 ^ w) (hn : n ≤ 4)
    (hk : k < n) : (m.readLE p n).extractLsb' (8 * k) 8 = m.read (p.toNat + k) := by
  have haddr : (p + BitVec.ofNat w k).toNat = p.toNat + k := by
    rw [BitVec.toNat_add, BitVec.toNat_ofNat, Nat.mod_eq_of_lt (show k < 2 ^ w by omega), Nat.mod_eq_of_lt (by omega)]
  apply BitVec.eq_of_getLsbD_eq
  intro i hi
  have hbyte : (8 * k + i) / 8 = k := by omega
  have hbit : (8 * k + i) % 8 = i := by omega
  rw [BitVec.getLsbD_extractLsb', Memory.getLsbD_readLE, hbyte, hbit, haddr]
  simp [hi, show 8 * k + i < 32 by omega, show 8 * k + i < 8 * n by omega]

theorem inScratch_biuPhys : inScratch biuPhys = false := by decide

theorem inScratch_iff {p : Word} : inScratch p = true ↔ 0x1F800000 ≤ p.toNat ∧ p.toNat ≤ 0x1F8003FF := by
  simp [inScratch, BitVec.ule]

/-- The scratchpad's answer. -/
theorem readsFrom_scratch {s : State} {p : Word} {n : Nat} (hs : inScratch p = true) (hn : p.toNat % 4 + n ≤ 4) :
    ReadsFrom s p n (s.scratch.readLE (scratchOffset p) n) := by
  have hbiu : p ≠ biuPhys := fun h => by rw [h, inScratch_biuPhys] at hs; cases hs
  obtain ⟨hlow, hhigh⟩ := inScratch_iff.1 hs
  have hoff : (scratchOffset p).toNat = p.toNat - 0x1F800000 := by rw [scratchOffset_toNat]; omega
  exact {
    width := readLE_toNat_lt ..
    memory := fun _ k hk => by
      rw [extractLsb'_readLE _ (by omega) (by omega) hk, hoff, byteFrom, if_pos hs]
    biu := fun h => absurd h hbiu
    device := fun h => absurd (by rw [readable, hs]; rfl) h }

/-- The answer of a read of BIU, which is a word. -/
theorem readsFrom_biu (s : State) : ReadsFrom s biuPhys 4 s.biu where
  width := s.biu.isLt
  memory h := by rw [readable, inScratch_biuPhys] at h; cases h
  biu _ := rfl
  device _ h := absurd rfl h

/-- The answer of the external interface: the bytes of a memory-like region, or the agent's (R68, R87). -/
theorem readsFrom_ext {s : State} {p : Word} {n : Nat} (hs : inScratch p = false) (hbiu : p ≠ biuPhys)
    (hn : p.toNat % 4 + n ≤ 4) : ReadsFrom s p n (s.extRead p n).1 := by
  have hreadable : readable s p n = (s.regionOf p n).isSome := by simp [readable, hs, hbiu]
  cases hr : s.regionOf p n with
  | some r =>
    have hm : (s.extRead p n).1 = s.mem.readLE p n := by simp only [State.extRead, hr]
    rw [hr] at hreadable
    rw [hm]
    exact {
      width := readLE_toNat_lt ..
      memory := fun _ k hk => by
        rw [extractLsb'_readLE _ (by omega) (by omega) hk, byteFrom, hs]
        rfl
      biu := fun h => absurd h hbiu
      device := fun h => absurd hreadable h }
  | none =>
    have hm : (s.extRead p n).1 = lowBytes n (Config.extAnswer s.events s.draws p n) := by simp only [State.extRead, hr]
    rw [hr] at hreadable
    rw [hm]
    exact {
      width := lowBytes_toNat_lt ..
      memory := fun h => by rw [hreadable] at h; cases h
      biu := fun h => absurd h hbiu
      device := fun _ _ => lowBytes_eq_lowOf .. }

/-- A read inside one aligned word, if it is not of a part of BIU: its answer, and the request it may have made. -/
theorem memRead_reads {a : Word} {n : Nat} {s : State} (hn : (phys a).toNat % 4 + n ≤ 4) (hok : n = 4 ∨ phys a ≠ biuPhys) :
    ∃ m, memRead a n s = .ok (m, { s with events := readEvents s (phys a) n }) ∧ ReadsFrom s (phys a) n m := by
  cases hs : inScratch (phys a) with
  | true =>
    refine ⟨_, ?_, readsFrom_scratch hs hn⟩
    rw [memRead_scratch hs, readEvents, if_pos (.inl hs)]
  | false =>
    by_cases hbiu : phys a = biuPhys
    · obtain rfl := hok.resolve_right (not_not_intro hbiu)
      refine ⟨_, ?_, hbiu ▸ readsFrom_biu s⟩
      rw [memRead_biu hbiu, readEvents, if_pos (.inr hbiu)]
    · refine ⟨_, ?_, readsFrom_ext hs hbiu hn⟩
      rw [memRead_ext hs hbiu, readEvents, if_neg (by simp [hs, hbiu])]
      rfl

/-! ## Loads (R260, R261) -/

theorem checkLoad_passes {w : Nat} {a : Word} {s : State} (hm : misaligned w a = false) (ha : allowed s a = true)
    (op : Opcode) (k : Out) : checkLoad op w a s k = k := by
  have hk : s.ksegFault a = false := (Bool.not_eq_true' _).mp ha
  simp [checkLoad, hm, hk]

theorem checkLoad_forbidden {a : Word} {s : State} (ha : allowed s a = false) (op : Opcode) (w : Nat) (k : Out) :
    checkLoad op w a s k = raise (.adEL a) op s := by
  have hk : s.ksegFault a = true := (Bool.not_eq_false' _).mp ha
  simp [checkLoad, hk]

/-- A load past its checks makes its one access, and its value becomes pending. -/
theorem loadInto_delays {rt : RegNum} {a : Word} {n : Nat} {s : State} (hn : (phys a).toNat % 4 + n ≤ 4)
    (hok : n = 4 ∨ phys a ≠ biuPhys) (f : Word → Word) :
    ∃ t m, loadInto rt a n f s = .next t ∧ ReadsFrom s (phys a) n m ∧ DelaysLoad s t rt (f m) ∧ LoadFrame s t ∧
      t.events = readEvents s (phys a) n := by
  obtain ⟨m, hm, hreads⟩ := memRead_reads hn hok
  refine ⟨_, m, by rw [loadInto, hm]; rfl, hreads, loadDelayed_delays s _ rt (f m), ?_, rfl⟩
  exact ⟨⟨rfl, rfl, rfl, rfl⟩, ⟨rfl, rfl⟩, ⟨rfl, rfl, rfl, rfl, rfl, rfl⟩, ⟨rfl, rfl, rfl, rfl, rfl⟩, ⟨rfl, fun _ => rfl⟩,
    ⟨fun _ => rfl, fun _ => rfl⟩, ⟨rfl, rfl, rfl, rfl, rfl⟩⟩

/-- A load of a part of BIU is refused (R67). -/
theorem loadInto_biu_partial {a : Word} (ha : phys a = biuPhys) {n : Nat} (hn : n ≠ 4) (rt : RegNum) (f : Word → Word)
    (s : State) : loadInto rt a n f s = .refused .biuPartialAccess := by
  rw [loadInto, memRead_biu_partial ha hn]

/-! ## The merges (R266, R267) -/

theorem getLsbD_byteOf (v : Word) (j i : Nat) : (byteOf v j).getLsbD i = (decide (i < 8) && v.getLsbD (8 * j + i)) :=
  BitVec.getLsbD_extractLsb' ..

/-- LWL: the word's bytes 0 to k over the base's top k + 1 bytes. -/
theorem byteOf_mergeLeft {k j : Nat} (hk : k < 4) (hj : j < 4) (base m : Word) :
    byteOf (mergeLeft k base m) j = if j < 3 - k then byteOf base j else byteOf m (j - (3 - k)) := by
  have hmask (i : Nat) : (0x00FFFFFF#32).getLsbD i = decide (i < 24) := by
    rw [show 0x00FFFFFF#32 = BitVec.ofNat 32 (2 ^ 24 - 1) from rfl, BitVec.getLsbD_ofNat, Nat.testBit_two_pow_sub_one]
    grind
  apply BitVec.eq_of_getLsbD_eq
  intro i hi
  rw [getLsbD_byteOf, mergeLeft, BitVec.getLsbD_or, BitVec.getLsbD_and, BitVec.getLsbD_ushiftRight, hmask,
    BitVec.getLsbD_shiftLeft]
  split_ifs with hlow <;> rw [getLsbD_byteOf]
  · simp [hi, show 8 * k + (8 * j + i) < 24 by omega, show 8 * j + i < 8 * (3 - k) by omega]
  · simp [hi, show ¬8 * k + (8 * j + i) < 24 by omega, show ¬8 * j + i < 8 * (3 - k) by omega,
      show 8 * j + i < 32 by omega, show 8 * j + i - 8 * (3 - k) = 8 * (j - (3 - k)) + i by omega]

/-- LWR: the word's bytes k to 3, as they were read, over the base's bottom 4 - k bytes. -/
theorem byteOf_mergeRight {k j : Nat} (hk : k < 4) (hj : j < 4) (base : Word) {m : Word} (hm : m.toNat < 2 ^ (8 * (4 - k))) :
    byteOf (mergeRight k base m) j = if j < 4 - k then byteOf m j else byteOf base j := by
  have hmask (i : Nat) : (0xFFFFFFFF#32).getLsbD i = decide (i < 32) := BitVec.getLsbD_allOnes
  apply BitVec.eq_of_getLsbD_eq
  intro i hi
  rw [getLsbD_byteOf, mergeRight, BitVec.getLsbD_or, BitVec.getLsbD_and, BitVec.getLsbD_not, BitVec.getLsbD_ushiftRight,
    hmask]
  split_ifs with hlow <;> rw [getLsbD_byteOf]
  · simp [hi, show 8 * k + (8 * j + i) < 32 by omega]
  · have hzero : m.getLsbD (8 * j + i) = false :=
      (BitVec.testBit_toNat m).symm.trans
        (Nat.testBit_lt_two_pow (hm.trans_le (Nat.pow_le_pow_right (by decide) (by omega))))
    rw [hzero, Bool.or_false]
    simp [hi, show ¬8 * k + (8 * j + i) < 32 by omega, show 8 * j + i < 32 by omega]

/-! ## LWL and LWR -/

theorem phys_toNat_mod_four (a : Word) : (phys a).toNat % 4 = a.toNat % 4 := by
  rw [← extractLsb'_low2_toNat, phys_low a 2 (by omega), extractLsb'_low2_toNat]

section
variable {s : State} {rt rs : RegNum} {imm : BitVec 16}

theorem exec_lwl (h : allowed s (address s rs imm) = true) :
    exec (.lwl rt rs imm) s =
      loadInto rt (wordBase (address s rs imm)) ((address s rs imm).toNat % 4 + 1)
        (mergeLeft ((address s rs imm).toNat % 4) (s.pendingOr rt)) s := by
  rw [← byteInWord_eq]
  exact checkLoad_passes (w := 1) rfl h ..

theorem exec_lwr (h : allowed s (address s rs imm) = true) :
    exec (.lwr rt rs imm) s =
      loadInto rt (address s rs imm) (4 - (address s rs imm).toNat % 4)
        (mergeRight ((address s rs imm).toNat % 4) (s.pendingOr rt)) s := by
  rw [← byteInWord_eq]
  exact checkLoad_passes (w := 1) rfl h ..

theorem exec_lwl_forbidden (h : allowed s (address s rs imm) = false) :
    exec (.lwl rt rs imm) s = raise (.adEL (address s rs imm)) Op.lwl s := checkLoad_forbidden h ..

theorem exec_lwr_forbidden (h : allowed s (address s rs imm) = false) :
    exec (.lwr rt rs imm) s = raise (.adEL (address s rs imm)) Op.lwr s := checkLoad_forbidden h ..

end

/-- An access of the last bytes of a word is of all of BIU or not at BIU's address, which is a multiple of 4 (R67). -/
theorem eq_four_or_ne_biuPhys (a : Word) : 4 - a.toNat % 4 = 4 ∨ phys a ≠ biuPhys := by
  by_cases hk : a.toNat % 4 = 0
  · exact .inl (by omega)
  · refine .inr fun h => hk ?_
    rw [← phys_toNat_mod_four, h]
    rfl

/-- Settles O29: each of the two is one read inside an aligned word, merged byte by byte into the base. -/
theorem unalignedLoadsMerge : Obligations.UnalignedLoadsMerge := by
  intro s rt rs imm a k base
  have hbase : base = s.pendingOr rt := by cases hld : s.ld <;> simp [base, State.pendingOr, hld]
  have hk : k < 4 := Nat.mod_lt _ (by decide)
  have hword : (phys (wordBase a)).toNat % 4 + (k + 1) ≤ 4 := by
    rw [phys_toNat_mod_four, wordBase_mod_four]
    omega
  have hrest : (phys a).toNat % 4 + (4 - k) ≤ 4 := by
    have : (phys a).toNat % 4 = k := phys_toNat_mod_four a
    omega
  refine ⟨⟨opField_iWord .., ignoresTheRest_encode _⟩, ⟨opField_iWord .., ignoresTheRest_encode _⟩, fun hno => ?_,
    fun hok hbiu h3 => ?_, fun hok hplace => ?_, fun hok => ?_⟩
  · have hno : allowed s a = false := Bool.eq_false_of_not_eq_true hno
    exact ⟨⟨_, exec_lwl_forbidden hno, trapEntry_traps s (.adEL a) 2⟩, ⟨_, exec_lwr_forbidden hno, trapEntry_traps s (.adEL a) 2⟩⟩
  · rw [exec_lwl hok]
    exact loadInto_biu_partial hbiu (fun h => h3 (Nat.succ.inj h)) ..
  · obtain ⟨t, m, ht, hreads, hdelay, hframe, hev⟩ :=
      loadInto_delays (rt := rt) hword (hplace.symm.imp_left (congrArg (· + 1))) (mergeLeft k base)
    refine ⟨t, m, _, ?_, hreads, fun j hj => byteOf_mergeLeft hk hj base m, hdelay, hframe, hev⟩
    rw [exec_lwl hok, ← hbase]
    exact ht
  · obtain ⟨t, m, ht, hreads, hdelay, hframe, hev⟩ :=
      loadInto_delays (rt := rt) hrest (eq_four_or_ne_biuPhys a) (mergeRight k base)
    refine ⟨t, m, _, ?_, hreads, fun j hj => byteOf_mergeRight hk hj base hreads.width, hdelay, hframe, hev⟩
    rw [exec_lwr hok, ← hbase]
    exact ht

end Sys2Proof
end

section
/-!
SUPPORT. The integer ALU: what its operations are over the integers, and how an instruction with one result ends.
-/

namespace Sys2Proof
open Sys2Proof.Machine Sys2Proof.Claims

/-! ## The operations over the integers (R10, R107) -/

theorem add_eq_ofInt (a b : Word) : a + b = BitVec.ofInt 32 (a.toInt + b.toInt) := by
  rw [BitVec.ofInt_add, BitVec.ofInt_toInt, BitVec.ofInt_toInt]

theorem sub_eq_ofInt (a b : Word) : a - b = BitVec.ofInt 32 (a.toInt - b.toInt) :=
  BitVec.eq_of_toInt_eq (by rw [BitVec.toInt_sub, BitVec.toInt_ofInt])

theorem boolWord_decide (p : Prop) [Decidable p] : boolWord (decide p) = truth p := by
  simp only [boolWord, truth, decide_eq_true_eq]

theorem boolWord_lessSigned (a b : Word) : boolWord (lessSigned a b) = truth (a.toInt < b.toInt) := boolWord_decide _

theorem boolWord_lessUnsigned (a b : Word) : boolWord (lessUnsigned a b) = truth (a.toNat < b.toNat) := boolWord_decide _

/-- A sign-extended immediate has the immediate's signed value. -/
theorem sextImm_toInt (imm : BitVec 16) : (sextImm imm).toInt = imm.toInt := BitVec.toInt_signExtend_of_le (by decide)

theorem add_sextImm (a : Word) (imm : BitVec 16) : a + sextImm imm = BitVec.ofInt 32 (a.toInt + imm.toInt) := by
  rw [add_eq_ofInt, sextImm_toInt]

theorem boolWord_lessSigned_sextImm (a : Word) (imm : BitVec 16) :
    boolWord (lessSigned a (sextImm imm)) = truth (a.toInt < imm.toInt) := by
  rw [boolWord_lessSigned, sextImm_toInt]

/-- A zero-extended immediate has the immediate's unsigned value. -/
theorem zextImm_eq_ofNat (imm : BitVec 16) : zextImm imm = BitVec.ofNat 32 imm.toNat := (BitVec.ofNat_toNat ..).symm

theorem word_eq_ofNat (v : Word) : v = BitVec.ofNat 32 v.toNat := ((BitVec.ofNat_toNat 32 v).trans (BitVec.setWidth_eq v)).symm

theorem and_zextImm (a : Word) (imm : BitVec 16) : a &&& zextImm imm = BitVec.ofNat 32 (a.toNat &&& imm.toNat) := by
  rw [BitVec.ofNat_and, ← word_eq_ofNat, zextImm_eq_ofNat]

theorem or_zextImm (a : Word) (imm : BitVec 16) : a ||| zextImm imm = BitVec.ofNat 32 (a.toNat ||| imm.toNat) := by
  rw [BitVec.ofNat_or, ← word_eq_ofNat, zextImm_eq_ofNat]

theorem xor_zextImm (a : Word) (imm : BitVec 16) : a ^^^ zextImm imm = BitVec.ofNat 32 (a.toNat ^^^ imm.toNat) := by
  rw [BitVec.ofNat_xor, ← word_eq_ofNat, zextImm_eq_ofNat]

theorem upperImm_eq_ofNat (imm : BitVec 16) : upperImm imm = BitVec.ofNat 32 (imm.toNat * 65536) := by
  apply BitVec.eq_of_toNat_eq
  have himm := imm.isLt
  rw [upperImm, BitVec.toNat_append, BitVec.toNat_ofNat, Nat.shiftLeft_eq, BitVec.toNat_ofNat, Nat.zero_mod, Nat.or_zero]
  omega

/-- The variable shift amount is the low five bits (R107). -/
theorem shiftAmount_toNat (v : Word) : (shiftAmount v).toNat = v.toNat % 32 := by
  rw [shiftAmount, BitVec.extractLsb'_toNat, Nat.shiftRight_zero]

theorem shiftLeft_eq_ofNat (v : Word) (n : BitVec 5) : shiftLeft v n = BitVec.ofNat 32 (v.toNat * 2 ^ n.toNat) := by
  rw [← Nat.shiftLeft_eq]
  rfl

theorem shiftRightLogical_eq_ofNat (v : Word) (n : BitVec 5) :
    shiftRightLogical v n = BitVec.ofNat 32 (v.toNat / 2 ^ n.toNat) := by
  rw [← Nat.shiftRight_eq_div_pow, ← BitVec.toNat_ushiftRight, ← word_eq_ofNat]
  rfl

/-- An arithmetic right shift rounds the signed quotient down. -/
theorem shiftRightArithmetic_eq_ofInt (v : Word) (n : BitVec 5) :
    shiftRightArithmetic v n = BitVec.ofInt 32 (v.toInt.fdiv (2 ^ n.toNat)) := by
  rw [Int.fdiv_eq_ediv_of_nonneg _ (by positivity), shiftRightArithmetic, BitVec.sshiftRight_eq, Int.shiftRight_eq_div_pow]
  norm_cast

/-! ## Signed overflow (R170) -/

/-- The XOR of signs says that the exact sum is no signed 32-bit number. -/
theorem addOverflows_iff (a b : Word) :
    addOverflows a b = true ↔ a.toInt + b.toInt < -(2 ^ 31) ∨ 2 ^ 31 ≤ a.toInt + b.toInt := by
  have hsigns : addOverflows a b = a.saddOverflow b := by
    simp only [BitVec.saddOverflow_eq, addOverflows, BitVec.msb_eq_getLsbD_last, BitVec.getLsbD_and, BitVec.getLsbD_not,
      BitVec.getLsbD_xor]
    cases a.getLsbD 31 <;> cases b.getLsbD 31 <;> simp
  rw [hsigns]
  simp [BitVec.saddOverflow, or_comm]

theorem subOverflows_iff (a b : Word) :
    subOverflows a b = true ↔ a.toInt - b.toInt < -(2 ^ 31) ∨ 2 ^ 31 ≤ a.toInt - b.toInt := by
  have hsigns : subOverflows a b = a.ssubOverflow b := by
    simp only [BitVec.ssubOverflow_eq, subOverflows, BitVec.msb_eq_getLsbD_last, BitVec.getLsbD_and, BitVec.getLsbD_xor]
    cases a.getLsbD 31 <;> cases b.getLsbD 31 <;> simp
  rw [hsigns]
  simp [BitVec.ssubOverflow, or_comm]

/-! ## The ends of an ALU instruction (R140) -/

/-- The pending load commits, the result is written, the pc pair advances, and nothing else changes. -/
theorem writeReg_gives (r : RegNum) (v : Word) (s : State) : ∃ t, writeReg r v s = .next t ∧ GivesReg s t r v := by
  refine ⟨_, retire_eq .., ⟨fun q => ?_, rfl⟩, ⟨rfl, rfl, rfl, rfl⟩, ⟨rfl, rfl⟩, ⟨⟨rfl, rfl, rfl, rfl, rfl, rfl⟩,
    ⟨rfl, rfl, rfl, rfl, rfl⟩, ⟨rfl, fun _ => rfl⟩, ⟨fun _ => rfl, fun _ => rfl⟩, ⟨rfl, rfl, rfl, rfl, rfl⟩, rfl⟩⟩
  rw [advance_reg, reg_setReg, (commitLoad_commits s).regs]

section
variable {i : Instr} {s : State} {r : RegNum} {v w : Word}

theorem hasOpcode_of_opField {op : Opcode} (h : opField (encode i) = op) : hasOpcode i op := ⟨h, ignoresTheRest_encode i⟩

theorem isSpecial_of_rWord {rs rt rd sa : BitVec 5} {funct : BitVec 6}
    (h : encode i = rWord Op.special rs rt rd sa funct) : isSpecial i funct :=
  ⟨hasOpcode_of_opField (h ▸ opField_rWord ..), h ▸ functField_rWord ..⟩

theorem gives_of_writeReg (hexec : exec i s = writeReg r v s) (hv : v = w) :
    ∃ t, exec i s = .next t ∧ GivesReg s t r w := by
  rw [hexec, hv]
  exact writeReg_gives r w s

/-- A SPECIAL instruction with one result: its word, and the result it gives. -/
theorem special_gives {rs rt rd sa : BitVec 5} {funct : BitVec 6} (henc : encode i = rWord Op.special rs rt rd sa funct)
    (hexec : exec i s = writeReg r v s) (hv : v = w) : isSpecial i funct ∧ ∃ t, exec i s = .next t ∧ GivesReg s t r w :=
  ⟨isSpecial_of_rWord henc, gives_of_writeReg hexec hv⟩

/-- An instruction with an immediate and one result: its word, and the result it gives. -/
theorem immediate_gives {op : Opcode} {rs rt : RegNum} {imm : BitVec 16} (henc : encode i = iWord op rs rt imm)
    (hexec : exec i s = writeReg r v s) (hv : v = w) : hasOpcode i op ∧ ∃ t, exec i s = .next t ∧ GivesReg s t r w :=
  ⟨hasOpcode_of_opField (henc ▸ opField_iWord ..), gives_of_writeReg hexec hv⟩

/-- A trapping instruction whose test says that the exact result `z` is no signed 32-bit number: it writes `z`, or it takes Ov. -/
theorem trapping_exact {o : Bool} {z : Int}
    (hexec : exec i s = if o then raise .ov (opcodeOf i) s else writeReg r v s)
    (ho : o = true ↔ z < -(2 ^ 31) ∨ 2 ^ 31 ≤ z) (hv : v = BitVec.ofInt 32 z) :
    (-(2 ^ 31) ≤ z → z < 2 ^ 31 → ∃ t, exec i s = .next t ∧ GivesReg s t r (BitVec.ofInt 32 z)) ∧
      (z < -(2 ^ 31) ∨ 2 ^ 31 ≤ z → ∃ t, exec i s = .next t ∧ Traps s t 12 ((opcodeOf i).extractLsb' 0 2) none) := by
  constructor
  · intro hlow hhigh
    have hfits : ¬o = true := by rw [ho]; omega
    exact gives_of_writeReg (hexec.trans (if_neg hfits)) hv
  · intro hout
    exact ⟨_, hexec.trans (if_pos (ho.2 hout)), trapEntry_traps s .ov _⟩

end

/-! ## The four families -/

/-- Settles O15, instruction by instruction: each ends in `writeReg` with its result over the integers. -/
theorem registerRegisterResults : Obligations.RegisterRegisterResults := by
  intro s rd rs rt
  refine List.forall_iff_forall_mem.1 ⟨?addu, ?subu, ?and, ?or, ?xor, ?nor, ?slt, ?sltu⟩
  case addu => exact special_gives rfl rfl (BitVec.add_def ..)
  case subu => exact special_gives rfl rfl (sub_eq_ofInt ..)
  case and | or | xor | nor => exact special_gives rfl rfl rfl
  case slt => exact special_gives rfl rfl (boolWord_lessSigned ..)
  case sltu => exact special_gives rfl rfl (boolWord_lessUnsigned ..)

/-- Settles O16: the arithmetic ones take the immediate sign-extended, the bitwise ones zero-extended, LUI as the upper half. -/
theorem registerImmediateResults : Obligations.RegisterImmediateResults := by
  intro s rt rs imm
  refine List.forall_iff_forall_mem.1 ⟨?addiu, ?slti, ?sltiu, ?andi, ?ori, ?xori, ?lui⟩
  case addiu => exact immediate_gives rfl rfl (add_sextImm ..)
  case slti => exact immediate_gives rfl rfl (boolWord_lessSigned_sextImm ..)
  case sltiu => exact immediate_gives rfl rfl (boolWord_lessUnsigned ..)
  case andi => exact immediate_gives rfl rfl (and_zextImm ..)
  case ori => exact immediate_gives rfl rfl (or_zextImm ..)
  case xori => exact immediate_gives rfl rfl (xor_zextImm ..)
  case lui => exact immediate_gives rfl rfl (upperImm_eq_ofNat imm)

/-- Settles O17: the variable shifts shift by the low five bits of x[rs] as the fixed ones do by sa. -/
theorem shiftResults : Obligations.ShiftResults := by
  intro s rd rt rs sa
  have hamount := shiftAmount_toNat (s.reg rs)
  refine List.forall_iff_forall_mem.1 ⟨?sll, ?srl, ?sra, ?sllv, ?srlv, ?srav⟩
  case sll => exact special_gives rfl rfl (shiftLeft_eq_ofNat ..)
  case srl => exact special_gives rfl rfl (shiftRightLogical_eq_ofNat ..)
  case sra => exact special_gives rfl rfl (shiftRightArithmetic_eq_ofInt ..)
  case sllv => exact special_gives rfl rfl (by rw [shiftLeft_eq_ofNat, hamount])
  case srlv => exact special_gives rfl rfl (by rw [shiftRightLogical_eq_ofNat, hamount])
  case srav => exact special_gives rfl rfl (by rw [shiftRightArithmetic_eq_ofInt, hamount])

/-- Settles O18: the XOR of signs decides whether the exact result fits, and each of the three writes it or takes Ov by that. -/
theorem trappingArithmetic : Obligations.TrappingArithmetic := by
  intro s rd rt rs imm
  have hadd : opcodeOf (.add rd rs rt) = Op.special := opField_rWord ..
  have hsub : opcodeOf (.sub rd rs rt) = Op.special := opField_rWord ..
  have haddi : opcodeOf (.addi rt rs imm) = Op.addi := opField_iWord ..
  have hoverflow := addOverflows_iff (s.reg rs) (sextImm imm)
  rw [sextImm_toInt] at hoverflow
  refine ⟨isSpecial_of_rWord rfl, isSpecial_of_rWord rfl, hasOpcode_of_opField haddi,
    List.forall_iff_forall_mem.1 ⟨?add, ?sub, ?addi⟩⟩
  case add => exact trapping_exact (by rw [hadd]; rfl) (addOverflows_iff ..) (add_eq_ofInt ..)
  case sub => exact trapping_exact (by rw [hsub]; rfl) (subOverflows_iff ..) (sub_eq_ofInt ..)
  case addi => exact trapping_exact (by rw [haddi]; rfl) hoverflow (add_sextImm ..)

end Sys2Proof
end

section
/-!
SUPPORT. Multiply, divide and the moves of HI and LO: the exact product, the truncating division, and how these instructions end.
-/

namespace Sys2Proof
open Sys2Proof.Machine Sys2Proof.Claims

/-! ## The 64-bit product (R210) -/

/-- HI and LO hold the whole product between them. -/
theorem productHi_append_productLo (p : BitVec 64) : productHi p ++ productLo p = p :=
  BitVec.extractLsb'_append_extractLsb'

theorem product64_signed_toInt (a b : Word) : (product64 a.toInt b.toInt).toInt = a.toInt * b.toInt := by
  have hlow := BitVec.le_toInt_mul_toInt (x := a) (y := b)
  have hhigh := BitVec.toInt_mul_toInt_le (x := a) (y := b)
  exact BitVec.toInt_ofInt_eq_self (by decide) (by omega) (by omega)

theorem product64_unsigned_toNat (a b : Word) : (product64 a.toNat b.toNat).toNat = a.toNat * b.toNat := by
  have hfits : a.toNat * b.toNat < 2 ^ 32 * 2 ^ 32 := Nat.mul_lt_mul'' a.isLt b.isLt
  rw [product64, ← Int.natCast_mul, BitVec.ofInt_natCast, BitVec.toNat_ofNat]
  exact Nat.mod_eq_of_lt hfits

/-! ## Signed division (R213) -/

section
variable {a b : Word}

/-- The sentinel quotient of a division by zero goes by the dividend's sign. -/
theorem signedQuotient_zero (a : Word) : signedQuotient a 0 = if a.toInt < 0 then 1 else 0xFFFFFFFF := by
  have hsign : a.getLsbD 31 = decide (a.toInt < 0) := BitVec.msb_eq_getLsbD_last a ▸ BitVec.msb_eq_toInt
  rw [signedQuotient, if_pos rfl, hsign]
  exact if_congr decide_eq_true_iff rfl rfl

theorem signedRemainder_zero (a : Word) : signedRemainder a 0 = a := if_pos rfl

/-- Only 0x80000000 / 0xFFFFFFFF has a quotient that is no signed 32-bit number, so every other one is exact. -/
theorem signedQuotient_toInt (hb : b ≠ 0) (hfits : ¬(a = 0x80000000 ∧ b = 0xFFFFFFFF)) :
    (signedQuotient a b).toInt = a.toInt.tdiv b.toInt := by
  rw [signedQuotient, if_neg hb, if_neg hfits, BitVec.toInt_ofInt, ← BitVec.toInt_sdiv]
  exact BitVec.toInt_sdiv_of_ne_or_ne a b (not_and_or.1 hfits)

theorem signedRemainder_toInt (hb : b ≠ 0) (hfits : ¬(a = 0x80000000 ∧ b = 0xFFFFFFFF)) :
    (signedRemainder a b).toInt = a.toInt.tmod b.toInt := by
  rw [signedRemainder, if_neg hb, if_neg hfits, ← BitVec.toInt_srem, BitVec.ofInt_toInt]

/-- The remainder of a truncating division is smaller than the divisor. -/
theorem natAbs_tmod_lt (x : Int) {y : Int} (hy : y ≠ 0) : (x.tmod y).natAbs < y.natAbs := by
  rw [Int.natAbs_tmod]
  exact Nat.mod_lt _ (Int.natAbs_pos.2 hy)

/-- The remainder of a truncating division is not of the opposite sign to the dividend. -/
theorem tmod_nonpos {x : Int} (y : Int) (hx : x ≤ 0) : x.tmod y ≤ 0 := by
  have hneg : 0 ≤ (-x).tmod y := Int.tmod_nonneg y (by omega)
  rw [Int.neg_tmod] at hneg
  omega

theorem signedDivision_exact (hb : b ≠ 0) (hfits : ¬(a = 0x80000000 ∧ b = 0xFFFFFFFF)) :
    a.toInt = (signedQuotient a b).toInt * b.toInt + (signedRemainder a b).toInt ∧
      (signedRemainder a b).toInt.natAbs < b.toInt.natAbs ∧
      (0 ≤ a.toInt → 0 ≤ (signedRemainder a b).toInt) ∧ (a.toInt ≤ 0 → (signedRemainder a b).toInt ≤ 0) := by
  rw [signedQuotient_toInt hb hfits, signedRemainder_toInt hb hfits]
  have hdivisor : b.toInt ≠ 0 := fun h => hb (BitVec.toInt_inj.1 h)
  exact ⟨(Int.tdiv_mul_add_tmod ..).symm, natAbs_tmod_lt _ hdivisor, Int.tmod_nonneg _, tmod_nonpos _⟩

/-! ## Unsigned division (R214) -/

theorem unsignedDivision_exact (hb : b ≠ 0) :
    a.toNat = (unsignedQuotient a b).toNat * b.toNat + (unsignedRemainder a b).toNat ∧
      (unsignedRemainder a b).toNat < b.toNat := by
  have hquotient : unsignedQuotient a b = a / b := (if_neg hb).trans BitVec.udiv_def.symm
  have hremainder : unsignedRemainder a b = a % b := (if_neg hb).trans BitVec.umod_def.symm
  have hpos : 0 < b.toNat := Nat.pos_of_ne_zero fun h => hb (BitVec.eq_of_toNat_eq h)
  rw [hquotient, hremainder, BitVec.toNat_udiv, BitVec.toNat_umod]
  exact ⟨(Nat.div_add_mod' ..).symm, Nat.mod_lt _ hpos⟩

end

/-! ## The instructions -/

/-- The pending load commits, HI and LO are written, the pc pair advances, and nothing else changes. -/
theorem writeHiLo_gives (hi lo : Word) (s : State) :
    ∃ t, writeHiLo hi lo s = .next t ∧ t.hi = hi ∧ t.lo = lo ∧ Commits s t ∧ Advances s t ∧ Quiet s t :=
  ⟨_, retire_eq .., rfl, rfl, ⟨(commitLoad_commits s).regs, rfl⟩, ⟨rfl, rfl, rfl, rfl⟩, ⟨⟨rfl, rfl, rfl, rfl, rfl, rfl⟩,
    ⟨rfl, rfl, rfl, rfl, rfl⟩, ⟨rfl, fun _ => rfl⟩, ⟨fun _ => rfl, fun _ => rfl⟩, ⟨rfl, rfl, rfl, rfl, rfl⟩, rfl⟩⟩

/-- A multiplication leaves its 64-bit product in HI:LO. -/
theorem writeProduct_gives (p : BitVec 64) (s : State) :
    ∃ t, writeHiLo (productHi p) (productLo p) s = .next t ∧ t.hi ++ t.lo = p ∧ Commits s t ∧ Advances s t ∧ Quiet s t := by
  obtain ⟨t, ht, hhi, hlo, hframe⟩ := writeHiLo_gives (productHi p) (productLo p) s
  exact ⟨t, ht, by rw [hhi, hlo, productHi_append_productLo], hframe⟩

/-- Settles O19: the product of two words fits 64 bits, signed or unsigned. -/
theorem multiplyIsExact : Obligations.MultiplyIsExact := by
  intro s rs rt
  refine ⟨isSpecial_of_rWord rfl, isSpecial_of_rWord rfl, ?mult, ?multu⟩
  case mult =>
    obtain ⟨t, ht, hproduct, hframe⟩ := writeProduct_gives (product64 (s.reg rs).toInt (s.reg rt).toInt) s
    exact ⟨t, ht, hproduct ▸ product64_signed_toInt .., hframe⟩
  case multu =>
    obtain ⟨t, ht, hproduct, hframe⟩ := writeProduct_gives (product64 (s.reg rs).toNat (s.reg rt).toNat) s
    exact ⟨t, ht, hproduct ▸ product64_unsigned_toNat .., hframe⟩

/-- Settles O20, by the cases of the two divisions: an ordinary divisor, a zero divisor and, for DIV, 0x80000000 / 0xFFFFFFFF. -/
theorem divisionTruncates : Obligations.DivisionTruncates := by
  intro s rs rt
  refine ⟨isSpecial_of_rWord rfl, isSpecial_of_rWord rfl, ?div, ?divu⟩
  case div =>
    obtain ⟨t, ht, hhi, hlo, hcommits, hadvances, hquiet⟩ :=
      writeHiLo_gives (signedRemainder (s.reg rs) (s.reg rt)) (signedQuotient (s.reg rs) (s.reg rt)) s
    refine ⟨t, ht, hcommits, hadvances, hquiet, ?_⟩
    rw [hhi, hlo]
    refine ⟨signedDivision_exact, fun hzero => ?_, fun hmin hminusOne => ?_⟩
    · rw [hzero]
      exact ⟨signedRemainder_zero _, signedQuotient_zero _⟩
    · rw [hmin, hminusOne]
      exact ⟨rfl, rfl⟩
  case divu =>
    obtain ⟨t, ht, hhi, hlo, hcommits, hadvances, hquiet⟩ :=
      writeHiLo_gives (unsignedRemainder (s.reg rs) (s.reg rt)) (unsignedQuotient (s.reg rs) (s.reg rt)) s
    refine ⟨t, ht, hcommits, hadvances, hquiet, ?_⟩
    rw [hhi, hlo]
    exact ⟨unsignedDivision_exact, fun hzero => ⟨if_pos hzero, if_pos hzero⟩⟩

/-- Settles O21: each of the four ends in `writeReg` or `writeHiLo`. -/
theorem hiLoMoves : Obligations.HiLoMoves := by
  intro s r
  refine ⟨isSpecial_of_rWord rfl, isSpecial_of_rWord rfl, isSpecial_of_rWord rfl, isSpecial_of_rWord rfl,
    writeReg_gives r s.hi s, writeReg_gives r s.lo s, writeHiLo_gives (s.reg r) s.lo s, ?mtlo⟩
  case mtlo =>
    obtain ⟨t, ht, hhi, hlo, hframe⟩ := writeHiLo_gives s.hi (s.reg r) s
    exact ⟨t, ht, hlo, hhi, hframe⟩

end Sys2Proof
end

section
/-!
SUPPORT. How a branch or jump outside a delay slot ends, and the targets, conditions and words of the branches.
-/

namespace Sys2Proof
open Sys2Proof.Machine Sys2Proof.Claims

/-! ## Targets and conditions (R232, R236 to R241) -/

theorem branchTarget_eq_branchGoal (s : State) (imm : BitVec 16) : branchTarget s.pc imm = branchGoal s imm := by
  have hoffset : sextImm imm <<< 2 = BitVec.ofInt 32 (4 * imm.toInt) := by
    rw [BitVec.shiftLeft_eq_mul_twoPow, BitVec.ofInt_mul, BitVec.mul_comm]
    rfl
  rw [branchTarget, branchGoal, hoffset, BitVec.ofInt_add, BitVec.ofInt_add, BitVec.ofInt_natCast, BitVec.ofNat_toNat,
    BitVec.setWidth_eq]
  rfl

theorem isNegative_iff (v : Word) : isNegative v = true ↔ v.toInt < 0 := by
  rw [isNegative, ← BitVec.msb_eq_getLsbD_last v, BitVec.msb_eq_toInt, decide_eq_true_iff]

theorem not_isNegative_iff (v : Word) : (!isNegative v) = true ↔ 0 ≤ v.toInt := by
  rw [Bool.not_eq_true', ← Bool.not_eq_true, isNegative_iff, not_lt]

/-- The comparison with 1 that BLEZ makes is the comparison of the signed value with 0. -/
theorem lessSigned_one_iff (v : Word) : lessSigned v 1 = true ↔ v.toInt ≤ 0 := by
  have hone : (1 : Word).toInt = 0 + 1 := rfl
  rw [lessSigned, BitVec.slt_iff_toInt_lt, hone, Int.lt_add_one_iff]

theorem not_lessSigned_one_iff (v : Word) : (!lessSigned v 1) = true ↔ 0 < v.toInt := by
  rw [Bool.not_eq_true', ← Bool.not_eq_true, lessSigned_one_iff, not_le]

/-! ## The ends of a branch (R143, R230) -/

section
variable {i : Instr} {s : State} {c : Bool} {p : Prop} {a goal : Word}

/-- What every branch does and leaves alone, whatever the general registers are afterwards. -/
theorem delayBranch_moves {t : State} (regs : Vector Word 32) (hc : c = true ↔ p)
    (ht : t = State.delayBranch { s with regs := regs, ld := none } c a) : Branches s t p a ∧ SameHiLo s t ∧ Quiet s t := by
  subst ht
  have hfalse : ¬p → c = false := fun hp => Bool.eq_false_iff.2 (mt hc.1 hp)
  exact ⟨⟨rfl, fun hp => ⟨if_pos (hc.2 hp), hc.2 hp⟩, fun hp => ⟨if_neg (mt hc.1 hp), hfalse hp⟩, rfl⟩, ⟨rfl, rfl⟩,
    ⟨⟨rfl, rfl, rfl, rfl, rfl, rfl⟩, ⟨rfl, rfl, rfl, rfl, rfl⟩, ⟨rfl, fun _ => rfl⟩, ⟨fun _ => rfl, fun _ => rfl⟩,
      ⟨rfl, rfl, rfl, rfl, rfl⟩, rfl⟩⟩

/-- A branch with no result of its own. -/
theorem onlyBranches_of_branch (hbd : s.bd = false) (hexec : exec i s = branch c a id s) (hc : c = true ↔ p) (ha : a = goal) :
    ∃ t, exec i s = .next t ∧ OnlyBranches s t p goal := by
  rw [hexec, ha]
  exact ⟨_, branch_eq hbd .., ⟨(commitLoad_commits s).regs, rfl⟩, delayBranch_moves (committedRegs s) hc rfl⟩

/-- A branch that links, whether or not it is taken. -/
theorem linksAndBranches_of_branch {r : RegNum} (hbd : s.bd = false) (hexec : exec i s = branch c a (link r s.pc) s)
    (hc : c = true ↔ p) (ha : a = goal) : ∃ t, exec i s = .next t ∧ LinksAndBranches s t r p goal := by
  rw [hexec, ha]
  refine ⟨_, branch_eq hbd .., ⟨fun q => ?_, rfl⟩, delayBranch_moves (link r s.pc s.commitLoad).regs hc rfl⟩
  rw [delayBranch_reg, link, reg_setReg, (commitLoad_commits s).regs]
  rfl

end

/-! ## The words and the meaning of the REGIMM branches (R112, R240, R241) -/

section
variable {rs : RegNum} {imm : BitVec 16}

/-- A list of REGIMM branches given by the rt field of each. -/
theorem regimm_of_map_encode {is : List Instr} {rts : List RegNum}
    (h : is.map encode = rts.map fun rt => iWord Op.regimm rs rt imm) :
    (∀ i ∈ is, hasOpcode i 0x01) ∧ is.map rtOf = rts := by
  constructor
  · intro i hi
    have hword : encode i ∈ is.map encode := List.mem_map_of_mem hi
    rw [h] at hword
    obtain ⟨rt, -, hrt⟩ := List.mem_map.1 hword
    exact hasOpcode_of_opField (hrt ▸ opField_iWord ..)
  · calc is.map rtOf = (is.map encode).map rtField := List.map_map.symm
      _ = rts := by simp [h, Function.comp_def]

theorem encode_ltzBranches : (ltzBranches rs imm).map encode =
    [0, 2, 4, 6, 8, 10, 12, 14, 18, 20, 22, 24, 26, 28, 30].map fun rt => iWord Op.regimm rs rt imm := rfl

theorem encode_gezBranches : (gezBranches rs imm).map encode =
    [1, 3, 5, 7, 9, 11, 13, 15, 19, 21, 23, 25, 27, 29, 31].map fun rt => iWord Op.regimm rs rt imm := rfl

/-- Every rt value that selects BLTZ selects one meaning. -/
theorem exec_ltzBranches {i : Instr} (hi : i ∈ ltzBranches rs imm) : exec i = branchIfNegative rs imm id :=
  (List.map_eq_replicate_iff (l := ltzBranches rs imm) (f := exec)).1 rfl i hi

/-- Every rt value that selects BGEZ selects one meaning. -/
theorem exec_gezBranches {i : Instr} (hi : i ∈ gezBranches rs imm) : exec i = branchIfNotNegative rs imm id :=
  (List.map_eq_replicate_iff (l := gezBranches rs imm) (f := exec)).1 rfl i hi

end

/-! ## The three families -/

/-- Settles O23: each of the four is a branch that is always taken. -/
theorem jumpsTransferControl : Obligations.JumpsTransferControl := by
  intro s target rd rs hbd
  have halways : true = true ↔ True := iff_true_intro rfl
  refine ⟨⟨hasOpcode_of_opField (opField_jWord ..), hasOpcode_of_opField (opField_jWord ..), isSpecial_of_rWord rfl,
    isSpecial_of_rWord rfl⟩, ?j, ?jal, ?jr, ?jalr⟩
  case j | jr => exact onlyBranches_of_branch hbd rfl halways rfl
  case jal | jalr => exact linksAndBranches_of_branch hbd rfl halways rfl

/-- Settles O24: each of the four is a branch whose test says what its signed comparison says. -/
theorem conditionalBranches : Obligations.ConditionalBranches := by
  intro s rs rt imm hbd
  have hgoal := branchTarget_eq_branchGoal s imm
  refine ⟨⟨hasOpcode_of_opField (opField_iWord ..), hasOpcode_of_opField (opField_iWord ..),
    hasOpcode_of_opField (opField_iWord ..), hasOpcode_of_opField (opField_iWord ..)⟩, ?beq, ?bne, ?blez, ?bgtz⟩
  case beq => exact onlyBranches_of_branch hbd rfl beq_iff_eq hgoal
  case bne => exact onlyBranches_of_branch hbd rfl bne_iff_ne hgoal
  case blez => exact onlyBranches_of_branch hbd rfl (lessSigned_one_iff _) hgoal
  case bgtz => exact onlyBranches_of_branch hbd rfl (not_lessSigned_one_iff _) hgoal

/-- Settles O25: the words by their rt fields, then the two tests of the sign, each with and without a link. -/
theorem regimmBranches : Obligations.RegimmBranches := by
  intro s rs imm hbd
  have hgoal := branchTarget_eq_branchGoal s imm
  obtain ⟨hltz, hltzRt⟩ := regimm_of_map_encode (encode_ltzBranches (rs := rs) (imm := imm))
  obtain ⟨hgez, hgezRt⟩ := regimm_of_map_encode (encode_gezBranches (rs := rs) (imm := imm))
  refine ⟨?opcodes, ⟨hltzRt, hgezRt, rtField_iWord .., rtField_iWord ..⟩, ?ltz, ?gez, ?bltzal, ?bgezal⟩
  case opcodes =>
    simp only [List.forall_mem_cons, List.forall_mem_append]
    exact ⟨hasOpcode_of_opField (opField_iWord ..), hasOpcode_of_opField (opField_iWord ..), hltz, hgez⟩
  case ltz => exact fun i hi => onlyBranches_of_branch hbd (congrFun (exec_ltzBranches hi) s) (isNegative_iff _) hgoal
  case gez => exact fun i hi => onlyBranches_of_branch hbd (congrFun (exec_gezBranches hi) s) (not_isNegative_iff _) hgoal
  case bltzal => exact linksAndBranches_of_branch hbd rfl (isNegative_iff _) hgoal
  case bgezal => exact linksAndBranches_of_branch hbd rfl (not_isNegative_iff _) hgoal

end Sys2Proof
end

section
/-!
SUPPORT. The loads and stores by their one access: the address checks, the loads that extend what they read, and the stores
to memory.
-/

namespace Sys2Proof
open Sys2Proof.Machine Sys2Proof.Claims

/-! ## The address checks (R64, R71, R260) -/

theorem ksegFault_eq_not_allowed (s : State) (a : Word) : s.ksegFault a = !allowed s a := (Bool.not_not _).symm

section
variable {w : Nat} {a : Word} {s : State} (hw : w = 1 ∨ w = 2 ∨ w = 4) (h : ¬aligned w a ∨ ¬allowed s a)
include hw h

theorem addressError_of_misaligned_or_forbidden : (misaligned w a || s.ksegFault a) = true := by
  rw [misaligned_eq_not_aligned a hw, ksegFault_eq_not_allowed]
  simpa using h

theorem checkLoad_faults (op : Opcode) (k : Out) : checkLoad op w a s k = raise (.adEL a) op s :=
  if_pos (addressError_of_misaligned_or_forbidden hw h)

theorem checkStore_faults (op : Opcode) (k : Out) : checkStore op w a s k = raise (.adES a) op s :=
  if_pos (addressError_of_misaligned_or_forbidden hw h)

end

/-- An aligned access lies in one aligned word. -/
theorem aligned_in_word {w : Nat} {a : Word} (hw : w = 1 ∨ w = 2 ∨ w = 4) (hal : aligned w a = true) :
    a.toNat % 4 + w ≤ 4 := by
  have hal : a.toNat % w = 0 := beq_iff_eq.1 hal
  rcases hw with rfl | rfl | rfl <;> omega

/-! ## LB, LBU, LH, LHU and LW (R263 to R265, R268) -/

/-- A value that fits in n bytes is its own zero-extension from them (R11). -/
theorem setWidth_setWidth_of_fits {m : Word} {n : Nat} (h : m.toNat < 2 ^ n) : (m.setWidth n).setWidth 32 = m := by
  apply BitVec.eq_of_toNat_eq
  rw [BitVec.toNat_setWidth, BitVec.toNat_setWidth, Nat.mod_eq_of_lt h, Nat.mod_eq_of_lt m.isLt]

/-- The five with the opcode, the width of the access and what becomes of its answer. -/
def extendingLoads (rt rs : RegNum) (imm : BitVec 16) : List (Instr × Opcode × Nat × (Word → Word)) :=
  [(.lb rt rs imm, 0x20, 1, fun m => (m.setWidth 8).signExtend 32), (.lbu rt rs imm, 0x24, 1, id),
    (.lh rt rs imm, 0x21, 2, fun m => (m.setWidth 16).signExtend 32), (.lhu rt rs imm, 0x25, 2, id), (.lw rt rs imm, 0x23, 4, id)]

/-- What the model makes of one of the five: its word, and one checked access whose answer, which fits its width, it extends as
the form says. -/
structure IsExtendingLoad (s : State) (rt rs : RegNum) (imm : BitVec 16) (i : Instr) (op : Opcode) (w : Nat)
    (extend : Word → Word) : Prop where
  width : w = 1 ∨ w = 2 ∨ w = 4
  word : encode i = iWord op rs rt imm
  meaning : ∃ f : Word → Word, (∀ m : Word, m.toNat < 2 ^ (8 * w) → f m = extend m) ∧
    exec i s = checkLoad op w (address s rs imm) s (loadInto rt (address s rs imm) w f s)

theorem isExtendingLoad_of_mem {rt rs : RegNum} {imm : BitVec 16} {x : Instr × Opcode × Nat × (Word → Word)}
    (hx : x ∈ extendingLoads rt rs imm) (s : State) : IsExtendingLoad s rt rs imm x.1 x.2.1 x.2.2.1 x.2.2.2 := by
  simp only [extendingLoads, List.mem_cons, List.not_mem_nil, or_false] at hx
  rcases hx with rfl | rfl | rfl | rfl | rfl
  · exact ⟨.inl rfl, rfl, _, fun _ _ => rfl, rfl⟩
  · exact ⟨.inl rfl, rfl, _, fun _ hm => setWidth_setWidth_of_fits hm, rfl⟩
  · exact ⟨.inr (.inl rfl), rfl, _, fun _ _ => rfl, rfl⟩
  · exact ⟨.inr (.inl rfl), rfl, _, fun _ hm => setWidth_setWidth_of_fits hm, rfl⟩
  · exact ⟨.inr (.inr rfl), rfl, _, fun _ _ => rfl, rfl⟩

/-- Settles O28: each of the five is one read of an aligned access behind the same check. -/
theorem loadsReadMemory : Obligations.LoadsReadMemory := by
  intro s rt rs imm a x hx
  obtain ⟨hw, hword, f, hf, hexec⟩ := isExtendingLoad_of_mem (rt := rt) (rs := rs) (imm := imm) hx s
  have hpass (hal : aligned x.2.2.1 a = true) (hok : allowed s a = true) : exec x.1 s = loadInto rt a x.2.2.1 f s :=
    hexec.trans (checkLoad_passes (by rw [misaligned_eq_not_aligned a hw, hal]; rfl) hok ..)
  refine ⟨hasOpcode_of_opField (hword ▸ opField_iWord ..), fun hbad => ?faults, fun hal hok hbiu hpart => ?partialBiu,
    fun hal hok hplace => ?reads⟩
  case faults => exact ⟨_, hexec.trans (checkLoad_faults hw hbad ..), trapEntry_traps s (.adEL a) _⟩
  case partialBiu => exact (hpass hal hok).trans (loadInto_biu_partial hbiu hpart ..)
  case reads =>
    have hin : (phys a).toNat % 4 + x.2.2.1 ≤ 4 := by
      rw [phys_toNat_mod_four]
      exact aligned_in_word hw hal
    obtain ⟨t, m, ht, hreads, hrest⟩ := loadInto_delays (rt := rt) hin hplace.symm f
    rw [hf m hreads.width] at hrest
    exact ⟨t, m, (hpass hal hok).trans ht, hreads, hrest⟩

/-! ## The stores to memory (R66, R68, R72) -/

/-- Each of the five is one write behind the address check, which knows the instruction by its opcode. -/
theorem exec_storeForm_eq_checkStore {s : State} {rt rs : RegNum} {imm : BitVec 16} {x : Instr × Nat × Word × Nat × Word}
    (hx : x ∈ storeForms s rt rs imm) :
    (x.2.1 = 1 ∨ x.2.1 = 2 ∨ x.2.1 = 4) ∧
      exec x.1 s = checkStore (opcodeOf x.1) x.2.1 (address s rs imm) s (storeTo x.2.2.1 x.2.2.2.1 x.2.2.2.2 s) := by
  have hop {i : Instr} {op : Opcode} (hi : encode i = iWord op rs rt imm) : opcodeOf i = op :=
    (congrArg opField hi).trans (opField_iWord ..)
  simp only [storeForms, List.mem_cons, List.not_mem_nil, or_false, ← byteInWord_eq] at hx
  rcases hx with rfl | rfl | rfl | rfl | rfl
  · exact ⟨.inl rfl, hop (i := .sb rt rs imm) rfl ▸ rfl⟩
  · exact ⟨.inr (.inl rfl), hop (i := .sh rt rs imm) rfl ▸ rfl⟩
  · exact ⟨.inr (.inr rfl), hop (i := .sw rt rs imm) rfl ▸ rfl⟩
  · exact ⟨.inl rfl, hop (i := .swl rt rs imm) rfl ▸ rfl⟩
  · exact ⟨.inl rfl, hop (i := .swr rt rs imm) rfl ▸ rfl⟩

/-- Only a RAM region that holds all the bytes takes an external write (R68). -/
theorem extWrite_mem_of_not_isRam {s : State} {p : Word} {n : Nat} (h : ¬isRam s p n) (v : Word) :
    (s.extWrite p n v).mem = s.mem := by
  simp only [State.extWrite]
  split
  · next hr => exact absurd (isRam_iff.2 ⟨_, _, hr⟩) h
  · rfl

/-- An address in the scratchpad is at its distance from the first (R65). -/
theorem scratchOffset_of_inScratch {p : Word} (h : inScratch p = true) : (scratchOffset p).toNat = p.toNat - 0x1F800000 := by
  obtain ⟨hlow, hhigh⟩ := inScratch_iff.1 h
  rw [scratchOffset_toNat]
  omega

section
variable {s : State} {p : Word} {n : Nat} (v : Word) (hn : p.toNat % 4 + n ≤ 4)
include hn

theorem storesAt_scratch (hs : inScratch p = true) :
    StoresAt s { s with scratch := s.scratch.writeLE (scratchOffset p) n v } p n v s.events where
  biu := rfl
  entries _ := rfl
  scratchStore _ q := by
    have hoff := scratchOffset_of_inScratch hs
    obtain ⟨hlow, hhigh⟩ := inScratch_iff.1 hs
    rw [read_writeLE_range _ _ (by omega), hoff]
  scratchOther h := absurd hs h
  ramStore h := absurd hs h
  memOther _ _ := rfl
  events := (if_pos hs).symm

theorem storesAt_ext (hs : inScratch p = false) : StoresAt s (s.extWrite p n v) p n v s.events where
  biu := rfl
  entries _ := rfl
  scratchStore h := absurd (hs.symm.trans h) Bool.false_ne_true
  scratchOther _ _ := rfl
  ramStore _ hram q := by
    rw [extWrite_mem_of_isRam hram, read_writeLE_range _ _ (by omega)]
  memOther h q := by
    rw [extWrite_mem_of_not_isRam (h.resolve_left (by simp [hs]))]
  events := by rw [extWrite_events, lowBytes_eq_lowOf, hs, if_neg Bool.false_ne_true]

end

/-- A write inside one aligned word while the cache is not isolated, at another address than BIU's (R72). -/
theorem memWrite_stores {s : State} (hisc : s.isc = false) {a : Word} {n : Nat} (hn : (phys a).toNat % 4 + n ≤ 4)
    (hbiu : phys a ≠ biuPhys) (v : Word) : ∃ s', memWrite a n v s = .ok s' ∧ StoresAt s s' (phys a) n v s.events := by
  cases hs : inScratch (phys a) with
  | true => exact ⟨_, memWrite_scratch hisc hs n v, storesAt_scratch v hn hs⟩
  | false => exact ⟨_, memWrite_ext hisc hs hbiu n v, storesAt_ext v hn hs⟩

/-- Such a store, made by whatever instruction. -/
theorem storeTo_stores {s : State} (hisc : s.isc = false) {a : Word} {n : Nat} (hn : (phys a).toNat % 4 + n ≤ 4)
    (hbiu : phys a ≠ biuPhys) (v : Word) :
    ∃ t, storeTo a n v s = .next t ∧ StoreFrame s t ∧ StoresAt s t (phys a) n v s.events := by
  obtain ⟨s', hw, hstores⟩ := memWrite_stores (s := s.commitLoad) hisc hn hbiu v
  exact ⟨_, by rw [storeTo, hw], memWrite_storeFrame hw, { hstores with }⟩

/-- A store of a part of BIU is refused (R67). -/
theorem storeTo_biu_partial {s : State} (hisc : s.isc = false) {a : Word} (ha : phys a = biuPhys) {n : Nat} (hn : n ≠ 4)
    (v : Word) : storeTo a n v s = .refused .biuPartialAccess := by
  rw [storeTo, memWrite_biu_partial (s := s.commitLoad) hisc ha hn]

/-- Settles O30: each of the five is one write inside one aligned word behind the same check. -/
theorem storesWriteTheirBytes : Obligations.StoresWriteTheirBytes := by
  intro s rt rs imm a
  refine ⟨⟨hasOpcode_of_opField (opField_iWord ..), hasOpcode_of_opField (opField_iWord ..),
    hasOpcode_of_opField (opField_iWord ..), hasOpcode_of_opField (opField_iWord ..), hasOpcode_of_opField (opField_iWord ..)⟩,
    fun x hx => ⟨fun hbad => ?faults, fun hisc hal hok hbiu hpart => ?partialBiu, fun hisc hal hok hbiu => ?stores⟩⟩
  case faults =>
    obtain ⟨hw, hexec⟩ := exec_storeForm_eq_checkStore hx
    exact ⟨_, hexec.trans (checkStore_faults hw hbad ..), trapEntry_traps s (.adES a) _⟩
  case partialBiu =>
    rw [exec_storeForm hx hal hok]
    exact storeTo_biu_partial (Bool.eq_false_of_not_eq_true hisc) hbiu hpart _
  case stores =>
    have hin : (phys x.2.2.1).toNat % 4 + x.2.2.2.1 ≤ 4 := by
      rw [phys_toNat_mod_four]
      exact storeForm_in_word hx hal
    rw [exec_storeForm hx hal hok]
    exact storeTo_stores (Bool.eq_false_of_not_eq_true hisc) hin hbiu _

end Sys2Proof
end

section
/-!
SUPPORT. The ends of a coprocessor instruction: usability, a no-operation, a load-delayed read, a request to an agent outside.
-/

namespace Sys2Proof
open Sys2Proof.Machine Sys2Proof.Claims

/-! ## Words and usability (R100, R293, R309) -/

theorem isEncoded_of_and {i : Instr} {mask pattern : Word} (h : encode i &&& mask = pattern) : isEncoded i mask pattern :=
  ⟨h, ignoresTheRest_encode i⟩

/-- A coprocessor-2 instruction takes CpU where the coprocessor is not usable, and else does what `k` says (R309). -/
theorem needsCop2_of_requireCop {s : State} {i : Instr} {op : Opcode} {k : Out} {P : Prop}
    (hi : exec i s = requireCop 2 op s k) (hop : op.extractLsb' 0 2 = 2) (hk : exec i s = k → P) : NeedsCop2 s i P := by
  constructor
  · intro hu
    rw [cop2Usable_eq] at hu
    exact hk (hi.trans (requireCop_usable hu _ _))
  · intro hu
    rw [cop2Usable_eq] at hu
    exact ⟨_, hi.trans (requireCop_unusable hu _ _), hop ▸ trapEntry_traps s .cpU _⟩

/-! ## How they end -/

/-- The pending load commits, the pc pair advances, and nothing else changes (R117, R296). -/
theorem noOperation_doesNothing (s : State) : ∃ t, noOperation s = .next t ∧ DoesNothing s t :=
  ⟨_, retire_eq .., ⟨(commitLoad_commits s).regs, rfl⟩, ⟨rfl, rfl, rfl, rfl⟩, ⟨rfl, rfl⟩, ⟨⟨rfl, rfl, rfl, rfl, rfl, rfl⟩,
    ⟨rfl, rfl, rfl, rfl, rfl⟩, ⟨rfl, fun _ => rfl⟩, ⟨fun _ => rfl, fun _ => rfl⟩, ⟨rfl, rfl, rfl, rfl, rfl⟩, rfl⟩⟩

/-- What an instruction leaves that changes general registers, the pending load and the record of requests alone. -/
theorem advance_loadFrame (s : State) (regs : Vector Word 32) (ld : Option PendingLoad) (ev : List Event) :
    LoadFrame s (State.advance { s with regs := regs, ld := ld, events := ev }) :=
  ⟨⟨rfl, rfl, rfl, rfl⟩, ⟨rfl, rfl⟩, ⟨rfl, rfl, rfl, rfl, rfl, rfl⟩, ⟨rfl, rfl, rfl, rfl, rfl⟩, ⟨rfl, fun _ => rfl⟩,
    ⟨fun _ => rfl, fun _ => rfl⟩, ⟨rfl, rfl, rfl, rfl, rfl⟩⟩

/-- A load-delayed read, whatever the agents outside were asked for it (R290, R311, R312). -/
theorem retireLoad_delays (s : State) (ev : List Event) (r : RegNum) (v : Word) :
    ∃ t, retireLoad r v { s with events := ev } = .next t ∧ DelaysLoad s t r v ∧ LoadFrame s t ∧ t.events = ev :=
  ⟨_, retireLoad_eq .., loadDelayed_delays s ev r v, advance_loadFrame .., rfl⟩

/-- An instruction that has asked the agents outside and does no more (R310). -/
theorem asked_commits (s : State) (ev : List Event) :
    Commits s (State.advance { s.commitLoad with events := ev }) ∧ LoadFrame s (State.advance { s.commitLoad with events := ev }) :=
  ⟨⟨(commitLoad_commits s).regs, rfl⟩, advance_loadFrame ..⟩

end Sys2Proof
end

section
/-!
SUPPORT. SYSCALL, BREAK and the coprocessor-0 instructions, and what RFE undoes of a trap.
-/

namespace Sys2Proof
open Sys2Proof.Machine Sys2Proof.Claims

theorem isSpecial_of_codeWord {i : Instr} {code : BitVec 20} {funct : BitVec 6} (h : encode i = codeWord code funct) :
    isSpecial i funct :=
  ⟨hasOpcode_of_opField (h ▸ opField_codeWord ..), h ▸ functField_codeWord ..⟩

/-- Settles O34: both raise their exception with the opcode of a SPECIAL word, whose low bits are 0. -/
theorem syscallAndBreakTrap : Obligations.SyscallAndBreakTrap := by
  intro s code
  exact ⟨⟨isSpecial_of_codeWord rfl, _, rfl, trapEntry_traps s .sys 0⟩, isSpecial_of_codeWord rfl, _, rfl,
    trapEntry_traps s .bp 0⟩

/-- A form that is reserved after the usability check: its word, and RI where the coprocessor is usable. -/
theorem reservedCop0Form {s : State} {i : Instr} {mask pattern : Word} (henc : encode i &&& mask = pattern)
    (hexec : exec i s = cop0Reserved s) :
    isEncoded i mask pattern ∧ NeedsCop0 s i (∃ t, exec i s = .next t ∧ Traps s t 10 0 none) :=
  ⟨isEncoded_of_and henc, needsCop0_of_requireCop hexec fun h => ⟨_, h, trapEntry_traps s .ri 0⟩⟩

/-- Settles O36: the six lie in their rows and have one meaning. -/
theorem reservedCop0FormsTrap : Obligations.ReservedCop0FormsTrap := by
  intro s rt rd
  refine List.forall_iff_forall_mem.1 ⟨?cfc0, ?ctc0, ?tlbr, ?tlbwi, ?tlbwr, ?tlbp⟩
  case cfc0 => exact reservedCop0Form (Laws.EncodeMatchesRow.cfc0 rt rd) rfl
  case ctc0 => exact reservedCop0Form (Laws.EncodeMatchesRow.ctc0 rt rd) rfl
  case tlbr => exact reservedCop0Form Laws.EncodeMatchesRow.tlbr rfl
  case tlbwi => exact reservedCop0Form Laws.EncodeMatchesRow.tlbwi rfl
  case tlbwr => exact reservedCop0Form Laws.EncodeMatchesRow.tlbwr rfl
  case tlbp => exact reservedCop0Form Laws.EncodeMatchesRow.tlbp rfl

/-! ## MFC0 (R39, R290) -/

theorem cop0Read_registers (s : State) : ∀ x ∈ cop0Registers s, cop0Read x.1 s = .value x.2 :=
  List.forall_iff_forall_mem.1 ⟨rfl, rfl, rfl, rfl, rfl, rfl, rfl, rfl, rfl, rfl, rfl⟩

theorem cop0Read_absent (s : State) : ∀ n ∈ ([0, 1, 2, 4, 10] : List RegNum), cop0Read n s = .absent :=
  List.forall_iff_forall_mem.1 ⟨rfl, rfl, rfl, rfl, rfl⟩

theorem cop0Read_none {n : RegNum} (h : 16 ≤ n.toNat) (s : State) : cop0Read n s = .none := by
  obtain ⟨k, hk, rfl⟩ := exists_eq_ofNat n
  rw [BitVec.toNat_ofNat, Nat.mod_eq_of_lt hk] at h
  interval_cases k <;> rfl

/-- Settles O37, by what a read of the register number gives. -/
theorem mfc0Reads : Obligations.Mfc0Reads := by
  intro s rt rd
  refine ⟨isEncoded_of_and (Laws.EncodeMatchesRow.mfc0 rt rd), needsCop0_of_requireCop rfl fun h =>
    ⟨fun x hx hrd => ?readable, fun hrd => ?absent, fun hrd => ?none⟩⟩
  case readable =>
    rw [h, hrd, cop0Read_registers s x hx]
    exact retireLoad_delays s s.events rt x.2
  case absent =>
    rw [h, cop0Read_absent s rd hrd]
    exact ⟨_, rfl, trapEntry_traps s .ri 0⟩
  case none =>
    rw [h, cop0Read_none hrd]
    exact noOperation_doesNothing s

/-! ## RFE (R292) -/

/-- SR as RFE leaves it, field by field. -/
theorem popStatus_eq_append (sr : Word) : popStatus sr = sr.extractLsb' 4 28 ++ sr.extractLsb' 2 4 := by
  apply BitVec.eq_of_getLsbD_eq
  intro i hi
  simp only [getLsbD_popStatus, BitVec.getLsbD_append, BitVec.getLsbD_extractLsb']
  grind

/-- Settles O39: RFE's one result is the pop. -/
theorem rfePopsTheStack : Obligations.RfePopsTheStack := fun s =>
  ⟨isEncoded_of_and Laws.EncodeMatchesRow.rfe, needsCop0_of_requireCop rfl fun h =>
    ⟨_, h, ⟨(commitLoad_commits s).regs, rfl⟩, ⟨rfl, rfl, rfl, rfl⟩, ⟨rfl, rfl⟩, ⟨rfl, rfl, rfl, rfl, rfl, rfl⟩,
      ⟨rfl, fun _ => rfl⟩, ⟨fun _ => rfl, fun _ => rfl⟩, ⟨rfl, rfl, rfl, rfl, rfl⟩, rfl, popStatus_eq_append s.sr, rfl, rfl, rfl,
      rfl⟩⟩

/-- A pop right after a push gives back every field but the old pair, bits 5:4, which the push lost. -/
theorem popStatus_pushStatus_field (sr : Word) {lo n : Nat} (h : lo + n ≤ 4 ∨ 6 ≤ lo) :
    (popStatus (pushStatus sr)).extractLsb' lo n = sr.extractLsb' lo n := by
  apply BitVec.eq_of_getLsbD_eq
  intro i hi
  rw [BitVec.getLsbD_extractLsb', BitVec.getLsbD_extractLsb', getLsbD_popStatus, getLsbD_pushStatus, getLsbD_pushStatus]
  grind

/-- Settles O46: RFE pops what trap entry pushed. -/
theorem returnUndoesTrap : Obligations.ReturnUndoesTrap := fun s _ _ =>
  ⟨popStatus_pushStatus_field s.sr (.inl le_rfl), popStatus_pushStatus_field s.sr (.inr le_rfl), getLsbD_pushStatus s.sr 0,
    getLsbD_pushStatus s.sr 1⟩

end Sys2Proof
end

section
/-!
SUPPORT. The forms coprocessors 0 and 2 share: branches, no-operations, and the usability check before everything else; and the
coprocessors the core does not have.
-/

namespace Sys2Proof
open Sys2Proof.Machine Sys2Proof.Claims

/-! ## The branches (R298, R318) -/

/-- Settles O26: behind the usability check each of the four is a branch on a constant condition. -/
theorem coprocessorBranches : Obligations.CoprocessorBranches := by
  intro s imm
  have hgoal := branchTarget_eq_branchGoal s imm
  have halways : true = true ↔ True := iff_true_intro rfl
  have hnever : false = true ↔ False := iff_false_intro Bool.false_ne_true
  refine ⟨⟨isEncoded_of_and (Laws.EncodeMatchesRow.bc0f imm), isEncoded_of_and (Laws.EncodeMatchesRow.bc0t imm),
    isEncoded_of_and (Laws.EncodeMatchesRow.bc2f imm), isEncoded_of_and (Laws.EncodeMatchesRow.bc2t imm)⟩,
    fun hbd => ⟨?bc0f, ?bc0t, ?bc2f, ?bc2t⟩, fun hbd => ⟨?slot0f, ?slot0t, ?slot2f, ?slot2t⟩⟩
  case bc0f => exact needsCop0_of_requireCop rfl fun h => onlyBranches_of_branch hbd h halways hgoal
  case bc0t => exact needsCop0_of_requireCop rfl fun h => onlyBranches_of_branch hbd h hnever hgoal
  case bc2f => exact needsCop2_of_requireCop rfl rfl fun h => onlyBranches_of_branch hbd h halways hgoal
  case bc2t => exact needsCop2_of_requireCop rfl rfl fun h => onlyBranches_of_branch hbd h hnever hgoal
  case slot0f | slot0t => exact needsCop0_of_requireCop rfl fun h => h.trans (branch_refused hbd ..)
  case slot2f | slot2t => exact needsCop2_of_requireCop rfl rfl fun h => h.trans (branch_refused hbd ..)

/-! ## The no-operations (R296, R319) -/

/-- The undefined COP0 forms have one meaning. -/
theorem exec_cop0NoOps {i : Instr} (hi : i ∈ cop0NoOps) : exec i = cop0NoOperation :=
  (List.map_eq_replicate_iff (l := cop0NoOps) (f := exec)).1 rfl i hi

/-- The undefined COP2 forms have one meaning. -/
theorem exec_cop2NoOps {i : Instr} (hi : i ∈ cop2NoOps) : exec i = cop2NoOperation :=
  (List.map_eq_replicate_iff (l := cop2NoOps) (f := exec)).1 rfl i hi

/-- Settles O40: each list has one meaning, a no-operation behind the usability check. -/
theorem coprocessorNoOperations : Obligations.CoprocessorNoOperations := by
  intro s
  refine ⟨fun i hi => ?cop0, fun i hi => ?cop2⟩
  case cop0 =>
    exact needsCop0_of_requireCop (congrFun (exec_cop0NoOps hi) s) fun h => h ▸ noOperation_doesNothing s
  case cop2 =>
    exact needsCop2_of_requireCop (congrFun (exec_cop2NoOps hi) s) rfl fun h => h ▸ noOperation_doesNothing s

/-! ## The usability check comes first (R293, R309) -/

theorem exec_decodeCop0Function (w : Word) (s : State) :
    ∃ k, exec (decodeCop0Function w) s = requireCop 0 Op.cop0 s k := by
  rw [decodeCop0Function.eq_def]
  split
  all_goals exact ⟨_, rfl⟩

/-- Whatever a COP0 word stands for, its meaning starts with the usability check. -/
theorem exec_decodeCop0 (w : Word) (s : State) : ∃ k, exec (decodeCop0 w) s = requireCop 0 Op.cop0 s k := by
  rw [decodeCop0.eq_def]
  split
  case h_9 => split <;> exact ⟨_, rfl⟩
  case h_17 => exact exec_decodeCop0Function w s
  all_goals exact ⟨_, rfl⟩

/-- Whatever a COP2 word stands for, its meaning starts with the usability check. -/
theorem exec_decodeCop2 (w : Word) (s : State) : ∃ k, exec (decodeCop2 w) s = requireCop 2 Op.cop2 s k := by
  rw [decodeCop2.eq_def]
  split
  case h_9 => split <;> exact ⟨_, rfl⟩
  all_goals exact ⟨_, rfl⟩

/-- The instructions of coprocessor 0, by their opcode. -/
theorem exec_of_opcode_cop0 {i : Instr} (h : opcodeOf i = 0x10) (s : State) :
    ∃ k, exec i s = requireCop 0 Op.cop0 s k := by
  rw [← decode_encode i, decode_cop0 h]
  exact exec_decodeCop0 ..

/-- The instructions of coprocessor 2 and its transfers, by their opcode. -/
theorem exec_of_opcode_cop2 {i : Instr} (h : opcodeOf i ∈ ([0x12, 0x32, 0x3A] : List Opcode)) (s : State) :
    ∃ op k, op.extractLsb' 0 2 = 2 ∧ exec i s = requireCop 2 op s k := by
  simp only [List.mem_cons, List.not_mem_nil, or_false] at h
  rw [← decode_encode i]
  rcases h with h | h | h
  · obtain ⟨k, hk⟩ := exec_decodeCop2 (encode i) s
    exact ⟨Op.cop2, k, rfl, by rw [decode_cop2 h, hk]⟩
  · exact ⟨Op.lwc2, _, rfl, by rw [decode, show opField (encode i) = 0x32 from h]; rfl⟩
  · exact ⟨Op.swc2, _, rfl, by rw [decode, show opField (encode i) = 0x3A from h]; rfl⟩

/-- Settles O41: the opcode alone says that the meaning starts with the usability check. -/
theorem unusableCoprocessorsTrap : Obligations.UnusableCoprocessorsTrap := by
  intro i s
  constructor
  · intro hop
    obtain ⟨k, hk⟩ := exec_of_opcode_cop0 hop s
    exact (needsCop0_of_requireCop hk id).2
  · intro hop
    obtain ⟨op, k, hce, hk⟩ := exec_of_opcode_cop2 hop s
    exact (needsCop2_of_requireCop hk hce id).2

/-! ## The absent coprocessors (R320 to R322) -/

theorem usable_eq_copUsable {z : Nat} (hz : z < 4) (s : State) : usable s z = s.copUsable (BitVec.ofNat 2 z) := by
  interval_cases z <;> rfl

/-- A word for a coprocessor that the core does not have, whose number stands in the opcode's low bits: CpU where it is not
usable, else refused. -/
theorem absentCoprocessor_outcome {s : State} {i : Instr} {op : Opcode} {z : Nat} (hz : z = op.toNat % 4)
    (henc : opField (encode i) = op) (hexec : exec i s = absentCoprocessor (BitVec.ofNat 2 z) op s) :
    hasOpcode i op ∧ (usable s z = false → ∃ t, exec i s = .next t ∧ Traps s t 11 (BitVec.ofNat 2 z) none) ∧
      (usable s z = true → exec i s = .refused .absentCoprocessor) := by
  have hce : op.extractLsb' 0 2 = BitVec.ofNat 2 z := by
    apply BitVec.eq_of_toNat_eq
    rw [hz, BitVec.extractLsb'_toNat, BitVec.toNat_ofNat, Nat.mod_mod, Nat.shiftRight_zero]
  rw [usable_eq_copUsable (by omega)]
  refine ⟨hasOpcode_of_opField henc, fun hu => ?_, fun hu => hexec.trans (requireCop_usable hu ..)⟩
  exact ⟨_, hexec.trans (requireCop_unusable hu ..), hce ▸ trapEntry_traps s .cpU _⟩

/-- Settles O42: each of the eight is such a word. -/
theorem absentCoprocessors : Obligations.AbsentCoprocessors := by
  intro s rt rs imm cofun
  refine List.forall_iff_forall_mem.1 ⟨?cop1, ?cop3, ?lwc0, ?lwc1, ?lwc3, ?swc0, ?swc1, ?swc3⟩
  case cop1 => exact absentCoprocessor_outcome (op := Op.cop1) (z := 1) rfl (opField_jWord ..) rfl
  case cop3 => exact absentCoprocessor_outcome (op := Op.cop3) (z := 3) rfl (opField_jWord ..) rfl
  case lwc0 => exact absentCoprocessor_outcome (op := Op.lwc0) (z := 0) rfl (opField_iWord ..) rfl
  case lwc1 => exact absentCoprocessor_outcome (op := Op.lwc1) (z := 1) rfl (opField_iWord ..) rfl
  case lwc3 => exact absentCoprocessor_outcome (op := Op.lwc3) (z := 3) rfl (opField_iWord ..) rfl
  case swc0 => exact absentCoprocessor_outcome (op := Op.swc0) (z := 0) rfl (opField_iWord ..) rfl
  case swc1 => exact absentCoprocessor_outcome (op := Op.swc1) (z := 1) rfl (opField_iWord ..) rfl
  case swc3 => exact absentCoprocessor_outcome (op := Op.swc3) (z := 3) rfl (opField_iWord ..) rfl

end Sys2Proof
end

section
/-!
SUPPORT. The calls on the GTE: the moves, the commands, and the transfers to and from memory.
-/

namespace Sys2Proof
open Sys2Proof.Machine Sys2Proof.Claims

/-- Settles O43: behind the usability check each is one call, recorded, and the two reads make its answer pending. -/
theorem gteMoves : Obligations.GteMoves := by
  intro s rt rd cofun
  refine ⟨⟨isEncoded_of_and (Laws.EncodeMatchesRow.mfc2 rt rd), isEncoded_of_and (Laws.EncodeMatchesRow.cfc2 rt rd),
    isEncoded_of_and (Laws.EncodeMatchesRow.mtc2 rt rd), isEncoded_of_and (Laws.EncodeMatchesRow.ctc2 rt rd),
    isEncoded_of_and (Laws.EncodeMatchesRow.cop2 cofun)⟩, ?mfc2, ?cfc2, List.forall_iff_forall_mem.1 ⟨?mtc2, ?ctc2, ?cop2⟩⟩
  case mfc2 | cfc2 => exact needsCop2_of_requireCop rfl rfl fun h => h ▸ retireLoad_delays s (_ :: s.events) rt _
  case mtc2 | ctc2 | cop2 =>
    refine needsCop2_of_requireCop rfl rfl fun h => ?_
    obtain ⟨hcommits, hframe⟩ := asked_commits s (_ :: s.events)
    exact ⟨_, h, hcommits, hframe, rfl⟩

/-! ## The address checks of an aligned access (R64, R71, R260) -/

section
variable {w : Nat} {a : Word} {s : State} (hw : w = 1 ∨ w = 2 ∨ w = 4) (hal : aligned w a = true) (hok : allowed s a = true)
include hw hal hok

theorem checkLoad_aligned (op : Opcode) (k : Out) : checkLoad op w a s k = k :=
  checkLoad_passes (by rw [misaligned_eq_not_aligned a hw, hal]; rfl) hok ..

theorem checkStore_aligned (op : Opcode) (k : Out) : checkStore op w a s k = k :=
  checkStore_passes (by rw [misaligned_eq_not_aligned a hw, hal]; rfl) hok ..

end

/-! ## A word moved to or from memory (R65, R72, R315, R316) -/

/-- A write of a whole word is never refused (R67). -/
theorem memWrite_word_total (a v : Word) (s : State) : ∃ s', memWrite a 4 v s = .ok s' := by
  cases hisc : s.isc with
  | true => exact ⟨_, memWrite_isolated hisc a 4 v⟩
  | false =>
    cases hs : inScratch (phys a) with
    | true => exact ⟨_, memWrite_scratch hisc hs 4 v⟩
    | false =>
      by_cases hbiu : phys a = biuAddress
      · exact ⟨_, memWrite_biu hisc hbiu v⟩
      · exact ⟨_, memWrite_ext hisc hs hbiu 4 v⟩

theorem storeTo_word_completes (a v : Word) (s : State) : ∃ t, storeTo a 4 v s = .next t ∧ StoreFrame s t := by
  obtain ⟨s', hw⟩ := memWrite_word_total a v s.commitLoad
  exact ⟨_, by rw [storeTo, hw], memWrite_storeFrame hw⟩

/-- An outcome has one next state. -/
theorem of_next {o : Out} {t : State} {P : State → Prop} (h : o = .next t) (hP : ∃ t', o = .next t' ∧ P t') : P t := by
  obtain ⟨t', ht', hP⟩ := hP
  obtain rfl := Host.Outcome.next.inj (h.symm.trans ht')
  exact hP

/-- An aligned word stored: into the isolated cache, into memory, or into BIU (R41, R66, R68, R72). -/
theorem storeTo_word {a : Word} (hal : aligned 4 a = true) (v : Word) (s : State) :
    ∃ t, storeTo a 4 v s = .next t ∧ StoreFrame s t ∧ (s.sr.getLsbD 16 → StoresIsolated s t a 4 v s.events) ∧
      (¬s.sr.getLsbD 16 → phys a ≠ biuPhys → StoresAt s t (phys a) 4 v s.events) ∧
      (¬s.sr.getLsbD 16 → phys a = biuPhys → s.ic.wf → BiuTakes s t v ∧ SameMemory s t ∧ t.events = s.events) := by
  obtain ⟨t, ht, hframe⟩ := storeTo_word_completes a v s
  have hin : a.toNat % 4 + 4 ≤ 4 := aligned_in_word (by decide) hal
  refine ⟨t, ht, hframe, fun hisc => ?isolated, fun hisc hbiu => ?memory, fun hisc hbiu hic => ?biu⟩
  case isolated => exact (of_next ht (storeTo_isolated hisc hin v)).2
  case memory =>
    rw [← phys_toNat_mod_four] at hin
    exact (of_next ht (storeTo_stores (Bool.eq_false_of_not_eq_true hisc) hin hbiu v)).2
  case biu =>
    obtain ⟨-, hmem, hev, htakes⟩ := of_next ht (storeTo_biu hic (Bool.eq_false_of_not_eq_true hisc) hbiu v)
    exact ⟨htakes, hmem, hev⟩

/-- The frame of a store does not see the requests made before it. -/
theorem storeFrame_of_events {s t : State} {ev : List Event} (h : StoreFrame { s with events := ev } t) : StoreFrame s t := by
  obtain ⟨hcommits, hadvances, hhilo, hdebug, hexc, hout⟩ := h
  exact ⟨{ hcommits with }, { hadvances with }, { hhilo with }, { hdebug with }, { hexc with }, { hout with }⟩

/-- An aligned word is read by one access (R65). -/
theorem memRead_word {a : Word} (hal : aligned 4 a = true) (s : State) :
    ∃ m, memRead a 4 s = .ok (m, { s with events := readEvents s (phys a) 4 }) ∧ ReadsFrom s (phys a) 4 m := by
  have hin : (phys a).toNat % 4 + 4 ≤ 4 := by
    rw [phys_toNat_mod_four]
    exact aligned_in_word (by decide) hal
  exact memRead_reads hin (.inl rfl)

/-- Settles O44: LWC2 is one read of a word and one call, SWC2 one call and one write of a word, behind the same checks. -/
theorem gteTransfers : Obligations.GteTransfers := by
  intro s rt rs imm a d
  have hword : 4 = 1 ∨ 4 = 2 ∨ 4 = 4 := by decide
  refine ⟨hasOpcode_of_opField (opField_iWord ..), hasOpcode_of_opField (opField_iWord ..),
    needsCop2_of_requireCop rfl rfl fun hexec => ⟨fun hbad => ?loadFaults, fun hal hok => ?loads⟩,
    needsCop2_of_requireCop rfl rfl fun hexec => ⟨fun hbad => ?storeFaults, fun hal hok => ?stores⟩⟩
  case loadFaults => exact ⟨_, hexec.trans (checkLoad_faults hword hbad ..), trapEntry_traps s (.adEL a) _⟩
  case storeFaults => exact ⟨_, hexec.trans (checkStore_faults hword hbad ..), trapEntry_traps s (.adES a) _⟩
  case loads =>
    obtain ⟨m, hm, hreads⟩ := memRead_word hal s
    obtain ⟨hcommits, hframe⟩ := asked_commits s (.gteWriteData rt m :: readEvents s (phys a) 4)
    refine ⟨_, m, (hexec.trans (checkLoad_aligned hword hal hok ..)).trans ?_, hreads, hcommits, hframe, rfl⟩
    rw [show effectiveAddress rs imm s = a from rfl, hm]
    rfl
  case stores =>
    obtain ⟨t, ht, hframe, hisolated, hmemory, hbiu⟩ := storeTo_word hal d (s.gteReadData rt).2
    refine ⟨t, (hexec.trans (checkStore_aligned hword hal hok ..)).trans ht, storeFrame_of_events hframe,
      fun hisc => { hisolated hisc with }, fun hisc hne => { hmemory hisc hne with }, fun hisc heq hic => ?_⟩
    obtain ⟨htakes, hmem, hev⟩ := hbiu hisc heq hic
    exact ⟨{ htakes with }, { hmem with }, hev⟩

end Sys2Proof
end

section
/-!
SUPPORT. Pixel resolution and OAM search: the winner is the candidate with the least key, and the sprite list is the first ten
covering entries.
-/

namespace Sys2Proof
open Sys2Proof.Machine Sys2Proof.Claims

/-! ## The winner among candidate sprite pixels (R351) -/

theorem spriteKeyLe_total {prio : SpritePriority} {a b : SpritePixel} (h : spriteKeyLe prio a b = false) :
    spriteKeyLe prio b a = true := by
  cases prio with
  | oamIndex => simp only [spriteKeyLe, decide_eq_false_iff_not, decide_eq_true_eq] at h ⊢; omega
  | xPosition => simp only [spriteKeyLe] at h ⊢; grind

theorem spriteWinner_mem {prio : SpritePriority} {l : List SpritePixel} {w : SpritePixel}
    (h : spriteWinner prio l = some w) : w ∈ l := by
  induction l generalizing w with
  | nil => cases h
  | cons c cs ih =>
    rw [spriteWinner] at h
    split at h
    · cases h; exact List.mem_cons_self
    · rename_i w' hw'
      split at h <;> cases h
      · exact List.mem_cons_self
      · exact List.mem_cons_of_mem c (ih hw')

/-- A candidate whose key no other candidate's reaches wins. -/
theorem spriteWinner_eq_of_least {prio : SpritePriority} {l : List SpritePixel} {w : SpritePixel} (hw : w ∈ l)
    (hleast : ∀ c ∈ l, c ≠ w → spriteKeyLe prio c w = false) : spriteWinner prio l = some w := by
  induction l with
  | nil => cases hw
  | cons c cs ih =>
    obtain ⟨hc, hcs⟩ := List.forall_mem_cons.1 hleast
    rw [spriteWinner]
    by_cases hmem : w ∈ cs
    · rw [ih hmem hcs]
      by_cases hcw : c = w
      · simp [hcw]
      · simp [hc hcw]
    · obtain rfl : w = c := (List.mem_cons.1 hw).resolve_right hmem
      cases hwin : spriteWinner prio cs with
      | none => rfl
      | some v =>
        have hv : v ∈ cs := spriteWinner_mem hwin
        have hvw : v ≠ w := fun h => hmem (h ▸ hv)
        simp [spriteKeyLe_total (hcs v hv hvw)]

/-- With no opaque candidate the lookup is the background's. -/
theorem resolveLookup_transparent (prio : SpritePriority) (bg : BgPixel) {cands : List SpritePixel}
    (h : ∀ c ∈ cands, c.ci = 0) : resolveLookup prio bg cands = (bg.layer, bg.palette, bg.ci) := by
  have hnone : cands.filter (fun c => c.ci != 0) = [] := List.filter_eq_nil_iff.2 (by simpa using h)
  rw [resolveLookup, hnone]
  rfl

/-- The least opaque candidate decides the lookup with its background-priority bit. -/
theorem resolveLookup_of_least {prio : SpritePriority} (bg : BgPixel) {cands : List SpritePixel} {w : SpritePixel}
    (hw : w ∈ cands) (hopaque : w.ci ≠ 0)
    (hleast : ∀ c ∈ cands, c.ci ≠ 0 → c ≠ w → spriteKeyLe prio c w = false) :
    resolveLookup prio bg cands =
      if w.bgp = true ∧ bg.ci ≠ 0 then (bg.layer, bg.palette, bg.ci) else (.sprite, w.palette, w.ci) := by
  have hwin : spriteWinner prio (cands.filter fun c => c.ci != 0) = some w := by
    refine spriteWinner_eq_of_least (List.mem_filter.2 ⟨hw, by simpa using hopaque⟩) fun c hc hne => ?_
    obtain ⟨hcand, hci⟩ := List.mem_filter.1 hc
    exact hleast c hcand (by simpa using hci) hne
  rw [resolveLookup, hwin]
  simp

/-- Settles O56: the strict order the statement gives each parameter is the failure of the model's comparison the other way. -/
theorem pixelResolution : Obligations.PixelResolution := by
  refine fun prio bg cands => ⟨resolveLookup_transparent prio bg, fun w hw hopaque hleast =>
    resolveLookup_of_least bg hw hopaque fun c hc hci hne => ?_⟩
  have hlt := hleast c hc hci hne
  cases prio with
  | oamIndex => simpa [spriteKeyLe] using hlt
  | xPosition => simp only [spriteKeyLe] at hlt ⊢; grind

/-! ## The sprite list of a line (R349) -/

/-- The first `k` numbers below `n` that pass a test are those that pass it with fewer than `k` passing before them. -/
theorem mem_take_filter_range {P : Nat → Bool} {k n i : Nat} :
    i ∈ ((List.range n).filter P).take k ↔ i < n ∧ P i = true ∧ ((List.range i).filter P).length < k := by
  induction n with
  | zero => simp
  | succ n ih =>
    have hlast : i ∈ ([n].filter P).take (k - ((List.range n).filter P).length) ↔
        i = n ∧ P n = true ∧ ((List.range n).filter P).length < k := by
      cases hP : P n with
      | false => simp [hP]
      | true => simp [hP, List.mem_take_iff_getElem]; omega
    rw [List.range_succ, List.filter_append, List.take_append, List.mem_append, ih, hlast]
    constructor
    · rintro (⟨hi, hP, hlt⟩ | ⟨rfl, hP, hlt⟩)
      · exact ⟨by omega, hP, hlt⟩
      · exact ⟨by omega, hP, hlt⟩
    · rintro ⟨hi, hP, hlt⟩
      rcases Nat.lt_succ_iff_lt_or_eq.1 hi with hi | rfl
      · exact .inl ⟨hi, hP, hlt⟩
      · exact .inr ⟨rfl, hP, hlt⟩

/-- Sorting entries with distinct ids puts them in strictly ascending order. -/
theorem sortSprites_strict {l : List SpriteEntry} (h : (l.map SpriteEntry.priorityId).Nodup) :
    (sortSprites l).Pairwise (fun a b => a.x < b.x ∨ (a.x = b.x ∧ a.priorityId < b.priorityId)) := by
  have hids : (sortSprites l).Pairwise (fun a b => a.priorityId ≠ b.priorityId) :=
    List.pairwise_map.1 (((sortSprites_perm l).map _).nodup_iff.2 h)
  refine ((sortSprites_sorted l).and hids).imp fun {a b} ⟨hle, hne⟩ => ?_
  rw [spriteEntryLe_iff] at hle
  omega

/-- The OAM indexes found, in OAM order. -/
def foundIndexes (env : PpuEnv) (p : Ppu) : List Nat := ((List.range env.oamEntries).filter (onLine env p)).take 10

theorem spriteCovers_eq_onLine (env : PpuEnv) (p : Ppu) (i : Nat) :
    spriteCovers p.ly (spriteHeight env p) (oamSprite env i) = onLine env p i := by
  unfold spriteCovers spriteHeight onLine
  split <;> rfl

/-- OAM search records the indexes found, and sorts. -/
theorem oamSearch_eq (env : PpuEnv) (p : Ppu) :
    oamSearch env p = sortSprites ((foundIndexes env p).map (listedSprite env p)) := by
  simp only [oamSearch, spriteCovers_eq_onLine]
  rfl

theorem foundIndexes_nodup (env : PpuEnv) (p : Ppu) : (foundIndexes env p).Nodup :=
  (List.take_sublist _ _).nodup (List.nodup_range.filter _)

/-- Settles O58: the search maps the first ten covering indexes, which are distinct, and sorting permutes. -/
theorem spriteListSorted : Obligations.SpriteListSorted := by
  intro env p
  rw [oamSearch_eq]
  refine ⟨?atMostTen, ?sorted, fun e => ?members⟩
  case atMostTen =>
    rw [length_sortSprites, List.length_map]
    exact List.length_take_le _ _
  case sorted =>
    refine sortSprites_strict ?_
    rw [List.map_map]
    exact (foundIndexes_nodup env p).map_on fun _ _ _ _ h => h
  case members =>
    rw [mem_sortSprites, List.mem_map]
    constructor
    · rintro ⟨i, hi, rfl⟩
      obtain ⟨hlt, hon, hfew⟩ := mem_take_filter_range.1 hi
      exact ⟨i, hlt, hon, hfew, rfl⟩
    · rintro ⟨i, hlt, hon, hfew, rfl⟩
      exact ⟨i, mem_take_filter_range.2 ⟨hlt, hon, hfew⟩, rfl⟩

end Sys2Proof
end

section
/-!
SUPPORT. Runs of the scanline engine: the budget of a call, and what transitions, cycles and register writes keep of the window.
-/

namespace Sys2Proof
open Sys2Proof.Machine Sys2Proof.Claims

/-! ## Advancing (R354) -/

theorem ppuRun_budget (env : PpuEnv) (prio : SpritePriority) (n : Nat) (p : Ppu) (b : Nat) :
    ppuRun env prio n { p with budget := b } = { ppuRun env prio n p with budget := b - n } := by
  induction n generalizing p b with
  | zero => rfl
  | succ n ih => rw [ppuRun, ppuCycle_budget, ih, ppuRun, Nat.sub_sub, Nat.add_comm 1 n]

theorem ppuAdvance_past {env : PpuEnv} {prio : SpritePriority} {p : Ppu} {t : Nat} (h : t < p.now) :
    ppuAdvance env prio t p = .error .ppuTargetInPast := if_pos h

/-- Advancing to a target not past is a run with the budget spent. -/
theorem ppuAdvance_ok {env : PpuEnv} {prio : SpritePriority} {p : Ppu} {t : Nat} (h : p.now ≤ t) :
    ppuAdvance env prio t p = .ok { ppuRun env prio (t - p.now) p with budget := 0 } := by
  rw [ppuAdvance, if_neg (Nat.not_lt.2 h), ppuRun_budget, Nat.sub_self]

/-- A call replaces the budget the call before it left. -/
theorem ppuAdvance_budget (env : PpuEnv) (prio : SpritePriority) (t b : Nat) (p : Ppu) :
    ppuAdvance env prio t { p with budget := b } = ppuAdvance env prio t p := rfl

/-- Settles O57: both ways run as many cycles and end with the budget spent. -/
theorem ppuAdvanceComposes : Obligations.PpuAdvanceComposes := by
  refine fun env prio p t1 t2 => ⟨ppuAdvance_past, fun h1 h2 => ?_⟩
  have hnow : (ppuRun env prio (t1 - p.now) p).now = t1 := by rw [ppuRun_now]; omega
  have hsplit : t2 - p.now = (t1 - p.now) + (t2 - t1) := by omega
  refine ⟨_, ppuAdvance_ok h1, hnow, ?_⟩
  rw [ppuAdvance_budget, ppuAdvance_ok (hnow.trans_le h2), ppuAdvance_ok (h1.trans h2), hnow, hsplit, ppuRun_add]

/-! ## What only transitions change -/

/-- The mode, the window's flags, the disabling write and the line's start are the same. -/
structure SameWindow (p q : Ppu) : Prop where
  mode : q.mode = p.mode
  winRequested : q.winRequested = p.winRequested
  winStarted : q.winStarted = p.winStarted
  windowOffAt : q.windowOffAt = p.windowOffAt
  lineStart : q.lineStart = p.lineStart

/-- After its transitions a cycle changes none of them. -/
theorem ppuCycle_sameWindow (env : PpuEnv) (prio : SpritePriority) (p : Ppu) :
    SameWindow (ppuSettle env 16 p) (ppuCycle env prio p) := by
  obtain ⟨run, hcycle⟩ := ppuCycle_state env prio p
  rw [hcycle]
  rcases ppuSpend_cases env prio (ppuSettle env 16 p) with ⟨-, -, hpixel⟩ | hramp | hidle
  · obtain ⟨_, _, _, _, _, _, _, hout⟩ := outputPixel_state env prio (ppuSettle env 16 p)
    rw [hpixel, hout]
    exact ⟨rfl, rfl, rfl, rfl, rfl⟩
  · rw [hramp]
    exact ⟨rfl, rfl, rfl, rfl, rfl⟩
  · rw [hidle]
    exact ⟨rfl, rfl, rfl, rfl, rfl⟩

/-! ## A started window (R353) -/

/-- The window is being drawn and the cursor has not reached the right edge. -/
structure DrawsWindow (env : PpuEnv) (p : Ppu) : Prop where
  started : p.winStarted = true
  mode3 : ppuModeNumber p.mode = 3
  beforeEdge : p.xpos < env.lineWidth

theorem ppuTransition_drawsWindow {env : PpuEnv} (p q : Ppu) (h : DrawsWindow env p) (hq : ppuTransition env p = some q) :
    DrawsWindow env q := by
  obtain ⟨hstarted, hmode, hx⟩ := h
  cases ppuTransition_did hq with
  | pixelTransfer h => rcases h with h | h <;> rw [h] at hmode <;> cases hmode
  | lineEnded _ hedge => omega
  | nextLine h => rw [h] at hmode; cases hmode
  | nextFrame h => rw [h] at hmode; cases hmode
  | windowStarted => exact ⟨rfl, rfl, hx⟩
  | prefetched | windowRequested | spritesReached | spritesLoaded | spritesAbandoned => exact ⟨hstarted, rfl, hx⟩

theorem ppuRun_keeps_started {env : PpuEnv} {prio : SpritePriority} {p : Ppu} (hstarted : p.winStarted = true)
    (hmode : ppuModeNumber p.mode = 3) (n : Nat) (hx : ∀ m < n, (ppuRun env prio m p).xpos < env.lineWidth) :
    (ppuRun env prio n p).winStarted = true ∧ ppuModeNumber (ppuRun env prio n p).mode = 3 := by
  induction n with
  | zero => exact ⟨hstarted, hmode⟩
  | succ n ih =>
    obtain ⟨hs, hm⟩ := ih fun m hlt => hx m (by omega)
    have hsettled := ppuSettle_keeps ppuTransition_drawsWindow 16 ⟨hs, hm, hx n (by omega)⟩
    have hsame := ppuCycle_sameWindow env prio (ppuRun env prio n p)
    rw [ppuRun_succ, hsame.mode, hsame.winStarted]
    exact ⟨hsettled.started, hsettled.mode3⟩

/-! ## A suppressed window (R353) -/

theorem windowSuppressed_iff {p : Ppu} : windowSuppressed p = true ↔ ∃ c, p.windowOffAt = some c ∧ p.lineStart ≤ c := by
  unfold windowSuppressed
  split <;> rename_i h <;> simp [h]

theorem windowSuppressed_congr {p q : Ppu} (hoff : p.windowOffAt = q.windowOffAt) (hline : p.lineStart = q.lineStart) :
    windowSuppressed p = windowSuppressed q := by
  unfold windowSuppressed; rw [hoff, hline]

theorem windowDue_of_suppressed {p : Ppu} (env : PpuEnv) (h : windowSuppressed p = true) : windowDue env p = false := by
  simp [windowDue, windowOpen, h]

/-- What every state after `p` keeps, when the window of `p` is suppressed and not requested: the memory of the disabling write, and,
since no line starts before `p`'s, the window not requested as long as `p`'s line lasts. -/
structure AfterSuppressed (p q : Ppu) : Prop where
  offAt : q.windowOffAt = p.windowOffAt
  lineStart_le : p.lineStart ≤ q.lineStart
  notRequested : q.lineStart = p.lineStart → q.winRequested = false

/-- The window stays suppressed while the line lasts. -/
theorem AfterSuppressed.suppressed {p q : Ppu} (h : AfterSuppressed p q) (hline : q.lineStart = p.lineStart)
    (hp : windowSuppressed p = true) : windowSuppressed q = true :=
  (windowSuppressed_congr h.offAt hline).trans hp

theorem ppuTransition_afterSuppressed {env : PpuEnv} {p : Ppu} (hp : windowSuppressed p = true) (q r : Ppu)
    (h : AfterSuppressed p q) (hr : ppuTransition env q = some r) : AfterSuppressed p r := by
  obtain ⟨hoff, hle, hreq⟩ := h
  cases ppuTransition_did hr with
  | pixelTransfer =>
    obtain ⟨_, _, _, _, _, _, _, _, heq⟩ := startPixelTransfer_state env q
    rw [heq]
    exact ⟨hoff, hle, hreq⟩
  | windowRequested _ _ hdue =>
    refine ⟨hoff, hle, fun hline => ?_⟩
    have hnot := windowDue_of_suppressed env (AfterSuppressed.suppressed ⟨hoff, hle, hreq⟩ hline hp)
    rw [hnot] at hdue
    cases hdue
  | lineEnded => exact ⟨hoff, hle, fun _ => rfl⟩
  | nextLine | nextFrame =>
    exact ⟨hoff, hle.trans (Nat.le_add_right ..), fun hline => hreq (le_antisymm ((Nat.le_add_right ..).trans_eq hline) hle)⟩
  | prefetched | spritesReached | spritesLoaded | spritesAbandoned | windowStarted => exact ⟨hoff, hle, hreq⟩

theorem ppuRun_afterSuppressed {env : PpuEnv} {p : Ppu} (hp : windowSuppressed p = true) (hreq : p.winRequested = false)
    (prio : SpritePriority) (n : Nat) : AfterSuppressed p (ppuRun env prio n p) := by
  induction n with
  | zero => exact ⟨rfl, le_rfl, fun _ => hreq⟩
  | succ n ih =>
    obtain ⟨hoff, hle, hnot⟩ := ppuSettle_keeps (ppuTransition_afterSuppressed hp) 16 ih
    have hsame := ppuCycle_sameWindow env prio (ppuRun env prio n p)
    rw [ppuRun_succ]
    constructor
    · rw [hsame.windowOffAt]; exact hoff
    · rw [hsame.lineStart]; exact hle
    · rw [hsame.lineStart, hsame.winRequested]; exact hnot

/-- A register write leaves the window suppressed, and suppresses it when it disables it: in both cases a disabling write of this
line is remembered. -/
theorem ppuApplyWrite_suppressed {env : PpuEnv} {reg value : Nat} {p : Ppu} (hnow : p.lineStart ≤ p.now)
    (h : (env.windowEnabled p.writes = true ∧ env.windowEnabled ((reg, value) :: p.writes) = false) ∨
      windowSuppressed p = true) : windowSuppressed (ppuApplyWrite env reg value p) = true := by
  obtain ⟨run, hwrite⟩ := ppuApplyWrite_state env reg value p
  rw [hwrite, windowSuppressed_iff]
  dsimp only
  split
  · exact ⟨p.now, rfl, hnow⟩
  · rename_i hoff
    exact windowSuppressed_iff.1 (h.resolve_left fun ⟨hon, hnot⟩ => hoff (by simp [hon, hnot]))

/-- Settles O59: the diagram transition by transition, then the started and the suppressed window as invariants of runs. -/
theorem ppuTransitionsLegal : Obligations.PpuTransitionsLegal := by
  refine fun env prio p => ⟨fun q hq => ?diagram, ppuRun_keeps_started, fun reg value => ?writes,
    fun hp hreq n hline => ?suppressed⟩
  case diagram =>
    cases ppuTransition_did hq with
    | pixelTransfer hmode =>
      obtain ⟨_, _, _, _, _, _, _, _, heq⟩ := startPixelTransfer_state env p
      rcases hmode with hmode | hmode <;> simp [hmode, heq]
    | nextLine hmode =>
      simp only [nextLine, hmode]
      split <;> simp
    | prefetched hmode | lineEnded hmode | windowRequested hmode | spritesReached hmode | spritesLoaded hmode
    | spritesAbandoned hmode | windowStarted hmode | nextFrame hmode =>
      simp [hmode, prefetched, endLine, startWindow, startSprites, spritesLoaded, spritesAbandoned, windowStarted, nextFrame]
  case writes =>
    obtain ⟨run, hwrite⟩ := ppuApplyWrite_state env reg value p
    exact ⟨by rw [hwrite], by rw [hwrite], by rw [hwrite], by rw [hwrite],
      fun hnow hon hoff => ppuApplyWrite_suppressed hnow (.inl ⟨hon, hoff⟩),
      fun hnow h => ppuApplyWrite_suppressed hnow (.inr h)⟩
  case suppressed =>
    have hafter := ppuRun_afterSuppressed (env := env) hp hreq prio n
    exact ⟨hafter.notRequested hline, hafter.suppressed hline hp⟩

end Sys2Proof
end

section
/-!
SUPPORT. The exceptions of the machine over all steps: the codes recorded in Cause, the interrupt lines, and what user mode
cannot reach.
-/

namespace Sys2Proof
open Sys2Proof.Machine Sys2Proof.Claims

/-! ## Trap entry (R370, R376) -/

/-- Settles O45: each cause of the list stands with its code of R370 and the address it offers BadVaddr. -/
theorem trapEntryEffects : Obligations.TrapEntryEffects := by
  intro s ce a
  simp only [List.forall_mem_cons]
  exact ⟨trapEntry_traps s .int ce, trapEntry_traps s (.adEL a) ce, trapEntry_traps s (.adES a) ce, trapEntry_traps s .sys ce,
    trapEntry_traps s .bp ce, trapEntry_traps s .ri ce, trapEntry_traps s .cpU ce, trapEntry_traps s .ov ce,
    List.forall_mem_nil _⟩

/-! ## Interrupt lines (R385) -/

/-- One bit of a word replaced by `b`. -/
theorem getLsbD_replaceBit (c : Word) (b : Bool) (i : Nat) {j : Nat} (hj : j < 32) :
    ((c &&& ~~~(1#32 <<< i)) ||| bitIf b i).getLsbD j = if j = i then b else c.getLsbD j := by
  change ((c &&& ~~~bitIf true i) ||| bitIf b i).getLsbD j = _
  simp only [BitVec.getLsbD_or, BitVec.getLsbD_and, BitVec.getLsbD_not, getLsbD_bitIf]
  rcases eq_or_ne j i with rfl | hi
  · simp [hj]
  · simp [hi, hj]

/-- Settles O50: the call replaces one bit of Cause. -/
theorem assertIrqEffects : Obligations.AssertIrqEffects := fun line asserted s =>
  ⟨fun h => ⟨_, if_pos h, fun _ => getLsbD_replaceBit s.cause asserted (10 + line)⟩, fun h => if_neg (Nat.not_le.2 h)⟩

/-! ## The codes a step records (R370) -/

/-- Two words that agree under a mask agree in every field the mask holds whole. -/
theorem extractLsb'_eq_of_and_eq {m c c' : Word} {lo n : Nat} (hm : m.extractLsb' lo n = BitVec.allOnes n)
    (h : c &&& m = c' &&& m) : c.extractLsb' lo n = c'.extractLsb' lo n := by
  simpa only [BitVec.extractLsb'_and, hm, BitVec.and_allOnes] using congrArg (BitVec.extractLsb' lo n) h

/-- MTC0 does not reach Cause.ExcCode (R32). -/
theorem cop0Write_excCode (s : State) (n : RegNum) (v : Word) :
    (s.cop0Write n v).cause.extractLsb' 2 5 = s.cause.extractLsb' 2 5 :=
  extractLsb'_eq_of_and_eq (m := 0x0000007C) (by decide) (cop0Write_cause_and (by decide) s n v)

theorem trapEntry_excCode_mem {e : Exc} {codes : List (BitVec 5)} (h : excCode e ∈ codes) (s : State) (ce : BitVec 2) :
    (s.trapEntry e ce).cause.extractLsb' 2 5 ∈ codes :=
  trapCause_excCode e ce s ▸ h

/-- An instruction records only the code of an exception that instructions raise. -/
theorem exec_excCode {i : Instr} {s t : State} (h : exec i s = .next t) :
    t.cause.extractLsb' 2 5 = s.cause.extractLsb' 2 5 ∨ t.cause.extractLsb' 2 5 ∈ raised := by
  cases exec_did h with
  | trap e he => exact .inr (trapEntry_excCode_mem he s _)
  | result | hiLo | nothing | branched | linked | loaded | asked | returned => exact .inl rfl
  | movedToCop0 n v => exact .inl (cop0Write_excCode s.commitLoad n v)
  | stored a n v ev s' _ _ hw =>
    obtain ⟨-, -, -, -, hexc, -⟩ := memWrite_storeFrame hw
    exact .inl (congrArg (BitVec.extractLsb' 2 5) hexc.cause)

/-- A step adds the two codes that no instruction is needed for: a fetch's address error and an interrupt. -/
theorem fetchAndDispatch_excCode {s t : State} (h : fetchAndDispatch s = .next t) :
    t.cause.extractLsb' 2 5 = s.cause.extractLsb' 2 5 ∨ t.cause.extractLsb' 2 5 ∈ 0 :: raised := by
  rcases fetchAndDispatch_cases h with ⟨-, rfl⟩ | ⟨w, s', -, hf, hrest⟩
  · exact .inr (trapEntry_excCode_mem (show (4 : BitVec 5) ∈ 0 :: raised by decide) s 0)
  · obtain ⟨c, rfl⟩ := iFetch_state hf
    rcases hrest with ⟨-, rfl⟩ | ⟨-, hx⟩
    · exact .inr (trapEntry_excCode_mem (show (0 : BitVec 5) ∈ 0 :: raised by decide) _ (ceField w))
    · exact (exec_excCode hx).imp_right (List.mem_cons_of_mem 0)

/-- Settles O48: the r0 re-zero and the clock leave Cause to the fetch and dispatch between them. -/
theorem exceptionCodesRaised : Obligations.ExceptionCodesRaised := by
  intro s t h
  obtain ⟨u, hu, rfl⟩ := step_next h
  have hcode := fetchAndDispatch_excCode hu
  rwa [zeroR0_cause] at hcode

/-! ## What user mode cannot reach (R64, R293, R391) -/

/-- Without CU0, user mode has no use of coprocessor 0 (R293). -/
theorem copUsable_zero_user {s : State} (hku : s.sr.getLsbD 1 = true) (hcu : s.sr.getLsbD 28 = false) : s.copUsable 0 = false := by
  have hkuc : s.kuc = true := hku
  have hcu0 : s.cu 0 = false := hcu
  rw [State.copUsable, hkuc, hcu0]
  rfl

/-- The address mapping sets no bit (R62). -/
theorem phys_getLsbD_31 {a : Word} (h : a.getLsbD 31 = false) : (phys a).getLsbD 31 = false := by
  unfold phys
  split
  · rw [BitVec.getLsbD_and, h, Bool.false_and]
  · rw [BitVec.getLsbD_and, h, Bool.false_and]
  · exact h

/-- BIU lies in the half of the address space that the kernel-segment check keeps from user mode (R64, R67). -/
theorem phys_ne_biu_user {s : State} {a : Word} (hku : s.sr.getLsbD 1 = true) (hp : s.params.userKsegFault = true)
    (ha : s.ksegFault a = false) : phys a ≠ biuAddress := by
  have hlow : a.getLsbD 31 = false := by simpa [State.ksegFault, State.kuc, hku, hp] using ha
  intro hbiu
  have := phys_getLsbD_31 hlow
  rw [hbiu] at this
  exact absurd this (by decide)

/-- A data write anywhere else than at BIU's address leaves BIU (R65, R72). -/
theorem memWrite_biu_same {a : Word} {n : Nat} {v : Word} {s s' : State} (hbiu : phys a ≠ biuAddress)
    (h : memWrite a n v s = .ok s') : s'.biu = s.biu := by
  simp only [memWrite, if_neg hbiu] at h
  split_ifs at h <;> cases h <;> rfl

/-- Settles O49, by the inversion of `exec`: a trap writes what trap entry writes, MTC0 and RFE need coprocessor 0, and a store
that R64 allows in user mode does not reach BIU. -/
theorem userModeCannotChangeSystemState : Obligations.UserModeCannotChangeSystemState := by
  intro i s t hku hcu hp h
  have hcop := copUsable_zero_user hku (Bool.eq_false_of_not_eq_true hcu)
  cases exec_did h with
  | trap e _ => exact ⟨rfl, ⟨rfl, rfl, rfl, rfl, rfl, rfl⟩, .inr ⟨_, _, trapEntry_writes s e _⟩⟩
  | result | hiLo | nothing | branched | linked | loaded | asked =>
    exact ⟨rfl, ⟨rfl, rfl, rfl, rfl, rfl, rfl⟩, .inl ⟨rfl, rfl, rfl, rfl, rfl⟩⟩
  | movedToCop0 _ _ hu => exact absurd hu (Bool.eq_false_iff.1 hcop)
  | returned hu => exact absurd hu (Bool.eq_false_iff.1 hcop)
  | stored a n v ev s' _ ha hw =>
    obtain ⟨-, -, -, hdebug, hexc, -⟩ := storeFrame_of_events (memWrite_storeFrame hw)
    have hbiu := memWrite_biu_same (phys_ne_biu_user hku hp ha) hw
    exact ⟨hbiu, hdebug, .inl hexc⟩

end Sys2Proof
end

section
/-!
SUPPORT. The state after reset (70_reset_and_hazards.md): the values of R420, and what a machine reset keeps.
-/

namespace Sys2Proof
open Sys2Proof.Machine Sys2Proof.Claims

/-! ## What the state's accessors read after reset (R420) -/

/-- Every register reads zero after reset, r0 by R21 and the others by their reset value. -/
@[simp] theorem reset_reg (r : RegNum) : State.reset.reg r = 0 := by
  rcases eq_or_ne r 0 with hr | hr
  · exact if_pos hr
  · exact (if_neg hr).trans (Vector.getElem_replicate r.isLt)

/-- No cache entry is listed after reset, so each is the common one: invalid and poisoned (R42). -/
@[simp] theorem reset_ic_read (i : BitVec 10) : State.reset.ic.read i = ⟨3, 0⟩ := rfl

/-- No scratchpad byte is listed after reset (R44). -/
@[simp] theorem reset_scratch_read (o : Nat) : State.reset.scratch.read o = 0 := rfl

/-- SR.IEc is clear after reset, so no interrupt is pending, whatever SR and Cause hold besides (R45). -/
theorem reset_intPending : State.reset.intPending = false := by
  have hiec : State.reset.iec = false := by decide
  rw [State.intPending, hiec, Bool.false_and]

/-- BIU.IS1 is clear after reset, so no fetch goes through the cache, wherever pc is (R40, R81). -/
theorem reset_cachedFetch : cachedFetch State.reset = false := by
  have his1 : State.reset.biu.getLsbD 11 = false := by decide
  rw [cachedFetch, his1, Bool.and_false]

/-! ## Machine reset (R420, R359) -/

/-- A machine reset keeps the memory, the record of requests, the step count and the parameters, and gives the rest, the video
block included, its reset values. -/
theorem machineReset_frame (s : State) :
    (machineReset s).mem = s.mem ∧ (machineReset s).events = s.events ∧ (machineReset s).draws = s.draws ∧
      (machineReset s).params = s.params ∧
      { machineReset s with mem := [], events := [], draws := 0, params := Params.default } = State.reset :=
  ⟨rfl, rfl, rfl, rfl, rfl⟩

/-! ## The obligations -/

/-- Settles O51: the plain fields hold the table's values, and the accessors and the machine reset have their own lemmas. -/
theorem resetValues : Obligations.ResetValues := by
  refine ⟨reset_reg, ?pc, ?npc, ?bd, ?bt, ?hi, ?lo, ?ld, ?sr, ?cause, ?epc, ?badVaddr, ?tar, ?prid, ?bpc, ?bda, ?bdam, ?bpcm,
    ?dcic, ?biu, reset_ic_read, reset_scratch_read, reset_intPending, ?timestamp, reset_cachedFetch, machineReset_frame⟩
  all_goals rfl

/-- Settles O52, which the invariant's file proves on the way to the host's calls. -/
theorem resetSatisfiesInv : Obligations.ResetSatisfiesInv := reset_inv

end Sys2Proof
end
